-- ==== Sys2Proof/Word.lean ====
section
/-! DEFINITION. The two word types of the machine: bytes and 16-bit words (00_scope.md R6, R7). -/

namespace Sys2Proof

/-- A byte: A, X, Y, S, P and every memory cell (00 R6, `DATA_WIDTH`). -/
abbrev Byte := BitVec 8

/-- A 16-bit word: PC and every address (00 R6, `PC_WIDTH` and `ADDR_WIDTH`). -/
abbrev Word := BitVec 16

end Sys2Proof
end

