-- ==== Sys2Proof/Config.lean ====
section
/-! DEFINITION. The implementation parameters (00_scope.md R6): the fixed ones as constants, those with two settings
and the OPEN ones as a record that `State` carries unchanged (log 1). -/

namespace Sys2Proof

/-- `BRK_MODE` (00 R6): what BRK does (45 R247). -/
inductive BrkMode where
  | terminal
  | vectored
deriving DecidableEq, Repr

/-- `UNDEF_POLICY` (00 R6): what an undefined opcode value does (30 R65, 46 R272). -/
inductive UndefPolicy where
  | fault
  | wdcNop
deriving DecidableEq, Repr

/-- `DEBUG_OPCODES` (00 R6, 30 R72): the byte values of the three debug opcodes, each one absent or assigned (log 21). -/
structure DebugOpcodes where
  breakpoint : Option Byte
  regdump : Option Byte
  memdump : Option Byte
deriving DecidableEq, Repr

/-- No debug opcode has a value. -/
def DebugOpcodes.absent : DebugOpcodes := { breakpoint := none, regdump := none, memdump := none }

/-- The parameters an instance is built with. No step changes them. -/
structure Params where
  brkMode : BrkMode
  undefPolicy : UndefPolicy
  debugOpcodes : DebugOpcodes
  debugCycles : Nat
deriving DecidableEq, Repr

/-- The defaults of 00 R6. The two OPEN parameters have none: DESIGN CHOICE, unsafe, log 3. -/
def Params.standard : Params :=
  { brkMode := .terminal, undefPolicy := .fault, debugOpcodes := .absent, debugCycles := 0 }

/-- `P_BIT5` (00 R6): the value bit 5 of the packed status byte reads as. -/
def pBit5 : Bool := true

/-- `MEM_INIT` (00 R6): the content of every byte of a fresh instance, hence what an address that memory does not
list reads as (70 R321). -/
def memInit : Byte := 0x00

/-- The size of memory in bytes (00 R6, 20 R40). -/
def memoryBound : Nat := 65536

end Sys2Proof
end

