-- ==== Sys2Proof/Syntax.lean ====
section
/-! DEFINITION. The instructions as syntax: one constructor per mnemonic of spec/opcode_table.json, the operand form of
each row in its argument, and the three debug opcodes (30_encoding.md R61 to R72; log 7). -/

namespace Sys2Proof

/-- The addressing modes by name (41 R103 to R117). The dual form zp,rel (41 R118) is ZeroPage as primary and
ProgramCounterRelative as secondary mode. -/
inductive AddrMode where
  | implied
  | accumulator
  | immediate
  | absolute
  | absoluteX
  | absoluteY
  | absoluteIndirect
  | absoluteXIndirect
  | zeroPage
  | zeroPageX
  | zeroPageY
  | zeroPageIndirect
  | zeroPageXIndirect
  | zeroPageIndirectY
  | programCounterRelative
deriving DecidableEq, Repr

/-- The operand forms that resolve to a data address, with their operand bytes: `zp8` a byte, `addr` the little-endian
word of the two operand bytes (30 R62). -/
inductive Ea where
  | zp (zp8 : Byte)
  | zpX (zp8 : Byte)
  | zpY (zp8 : Byte)
  | abs (addr : Word)
  | absX (addr : Word)
  | absY (addr : Word)
  | zpInd (zp8 : Byte)
  | zpXInd (zp8 : Byte)
  | zpIndY (zp8 : Byte)
deriving DecidableEq, Repr

/-- An operand that is only read: an immediate byte or the byte at an address (41 R102). -/
inductive Src where
  | imm (imm8 : Byte)
  | mem (ea : Ea)
deriving DecidableEq, Repr

/-- An operand that is read and written: the accumulator or the byte at an address (41 R102, R104). -/
inductive Rmw where
  | acc
  | mem (ea : Ea)
deriving DecidableEq, Repr

/-- The three forms of JMP (45 R243). -/
inductive JmpOperand where
  | abs (addr : Word)
  | ind (addr : Word)
  | indX (addr : Word)
deriving DecidableEq, Repr

/-- An undefined opcode value with the operand bytes of its W65C02S no-operation form (30 R65). -/
inductive UndefForm where
  | one (opcode : Byte)
  | imm (opcode imm8 : Byte)
  | zp (opcode zp8 : Byte)
  | zpX (opcode zp8 : Byte)
  | abs (opcode : Byte) (addr : Word)
deriving DecidableEq, Repr

/-- The instructions. -/
inductive Instr where
  /-- LDA (R130). -/
  | lda (op : Src)
  /-- LDX (R131). -/
  | ldx (op : Src)
  /-- LDY (R132). -/
  | ldy (op : Src)
  /-- STA (R133). -/
  | sta (ea : Ea)
  /-- STX (R134). -/
  | stx (ea : Ea)
  /-- STY (R135). -/
  | sty (ea : Ea)
  /-- STZ (R136). -/
  | stz (ea : Ea)
  /-- TAX (R137). -/
  | tax
  /-- TAY (R138). -/
  | tay
  /-- TXA (R139). -/
  | txa
  /-- TYA (R140). -/
  | tya
  /-- TSX (R141). -/
  | tsx
  /-- TXS (R142). -/
  | txs
  /-- PHA (R143). -/
  | pha
  /-- PHX (R144). -/
  | phx
  /-- PHY (R145). -/
  | phy
  /-- PHP (R146). -/
  | php
  /-- PLA (R147). -/
  | pla
  /-- PLX (R148). -/
  | plx
  /-- PLY (R149). -/
  | ply
  /-- PLP (R150). -/
  | plp
  /-- ADC (R170). -/
  | adc (op : Src)
  /-- SBC (R171). -/
  | sbc (op : Src)
  /-- AND (R172). -/
  | and (op : Src)
  /-- ORA (R173). -/
  | ora (op : Src)
  /-- EOR (R174). -/
  | eor (op : Src)
  /-- CMP (R175). -/
  | cmp (op : Src)
  /-- CPX (R176). -/
  | cpx (op : Src)
  /-- CPY (R177). -/
  | cpy (op : Src)
  /-- BIT (R178). -/
  | bit (op : Src)
  /-- TSB (R179). -/
  | tsb (ea : Ea)
  /-- TRB (R180). -/
  | trb (ea : Ea)
  /-- INC (R181). -/
  | inc (op : Rmw)
  /-- DEC (R182). -/
  | dec (op : Rmw)
  /-- INX (R183). -/
  | inx
  /-- INY (R184). -/
  | iny
  /-- DEX (R185). -/
  | dex
  /-- DEY (R186). -/
  | dey
  /-- ASL (R210). -/
  | asl (op : Rmw)
  /-- LSR (R211). -/
  | lsr (op : Rmw)
  /-- ROL (R212). -/
  | rol (op : Rmw)
  /-- ROR (R213). -/
  | ror (op : Rmw)
  /-- RMB0 (R214). -/
  | rmb0 (zp8 : Byte)
  /-- RMB1 (R214). -/
  | rmb1 (zp8 : Byte)
  /-- RMB2 (R214). -/
  | rmb2 (zp8 : Byte)
  /-- RMB3 (R214). -/
  | rmb3 (zp8 : Byte)
  /-- RMB4 (R214). -/
  | rmb4 (zp8 : Byte)
  /-- RMB5 (R214). -/
  | rmb5 (zp8 : Byte)
  /-- RMB6 (R214). -/
  | rmb6 (zp8 : Byte)
  /-- RMB7 (R214). -/
  | rmb7 (zp8 : Byte)
  /-- SMB0 (R215). -/
  | smb0 (zp8 : Byte)
  /-- SMB1 (R215). -/
  | smb1 (zp8 : Byte)
  /-- SMB2 (R215). -/
  | smb2 (zp8 : Byte)
  /-- SMB3 (R215). -/
  | smb3 (zp8 : Byte)
  /-- SMB4 (R215). -/
  | smb4 (zp8 : Byte)
  /-- SMB5 (R215). -/
  | smb5 (zp8 : Byte)
  /-- SMB6 (R215). -/
  | smb6 (zp8 : Byte)
  /-- SMB7 (R215). -/
  | smb7 (zp8 : Byte)
  /-- BCC (R232). -/
  | bcc (rel8 : Byte)
  /-- BCS (R233). -/
  | bcs (rel8 : Byte)
  /-- BEQ (R234). -/
  | beq (rel8 : Byte)
  /-- BNE (R235). -/
  | bne (rel8 : Byte)
  /-- BMI (R236). -/
  | bmi (rel8 : Byte)
  /-- BPL (R237). -/
  | bpl (rel8 : Byte)
  /-- BVC (R238). -/
  | bvc (rel8 : Byte)
  /-- BVS (R239). -/
  | bvs (rel8 : Byte)
  /-- BRA (R240). -/
  | bra (rel8 : Byte)
  /-- BBR0 (R241). -/
  | bbr0 (zp8 rel8 : Byte)
  /-- BBR1 (R241). -/
  | bbr1 (zp8 rel8 : Byte)
  /-- BBR2 (R241). -/
  | bbr2 (zp8 rel8 : Byte)
  /-- BBR3 (R241). -/
  | bbr3 (zp8 rel8 : Byte)
  /-- BBR4 (R241). -/
  | bbr4 (zp8 rel8 : Byte)
  /-- BBR5 (R241). -/
  | bbr5 (zp8 rel8 : Byte)
  /-- BBR6 (R241). -/
  | bbr6 (zp8 rel8 : Byte)
  /-- BBR7 (R241). -/
  | bbr7 (zp8 rel8 : Byte)
  /-- BBS0 (R242). -/
  | bbs0 (zp8 rel8 : Byte)
  /-- BBS1 (R242). -/
  | bbs1 (zp8 rel8 : Byte)
  /-- BBS2 (R242). -/
  | bbs2 (zp8 rel8 : Byte)
  /-- BBS3 (R242). -/
  | bbs3 (zp8 rel8 : Byte)
  /-- BBS4 (R242). -/
  | bbs4 (zp8 rel8 : Byte)
  /-- BBS5 (R242). -/
  | bbs5 (zp8 rel8 : Byte)
  /-- BBS6 (R242). -/
  | bbs6 (zp8 rel8 : Byte)
  /-- BBS7 (R242). -/
  | bbs7 (zp8 rel8 : Byte)
  /-- JMP (R243). -/
  | jmp (op : JmpOperand)
  /-- JSR (R244). -/
  | jsr (addr : Word)
  /-- RTS (R245). -/
  | rts
  /-- RTI (R246). -/
  | rti
  /-- BRK (R247). -/
  | brk
  /-- CLC (R260). -/
  | clc
  /-- SEC (R261). -/
  | sec
  /-- CLD (R262). -/
  | cld
  /-- SED (R263). -/
  | sed
  /-- CLI (R264). -/
  | cli
  /-- SEI (R265). -/
  | sei
  /-- CLV (R266). -/
  | clv
  /-- NOP (R267). -/
  | nop
  /-- WAI (R273). -/
  | wai
  /-- STP (R274). -/
  | stp
  /-- A byte value with no instruction of the 65C02 ISA (30 R65, 46 R272). -/
  | undefined (form : UndefForm)
  /-- Debug opcode OP_BREAKPOINT (R275), on an undefined value that `DEBUG_OPCODES` assigns. -/
  | opBreakpoint
  /-- Debug opcode OP_REGDUMP (R276). -/
  | opRegdump
  /-- Debug opcode OP_MEMDUMP (R277). -/
  | opMemdump
deriving DecidableEq, Repr

/-- The mnemonic tags of the instruction descriptors (30 R67). -/
inductive Mnemonic where
  | lda
  | ldx
  | ldy
  | sta
  | stx
  | sty
  | stz
  | tax
  | tay
  | txa
  | tya
  | tsx
  | txs
  | pha
  | phx
  | phy
  | php
  | pla
  | plx
  | ply
  | plp
  | adc
  | sbc
  | and
  | ora
  | eor
  | cmp
  | cpx
  | cpy
  | bit
  | tsb
  | trb
  | inc
  | dec
  | inx
  | iny
  | dex
  | dey
  | asl
  | lsr
  | rol
  | ror
  | rmb0
  | rmb1
  | rmb2
  | rmb3
  | rmb4
  | rmb5
  | rmb6
  | rmb7
  | smb0
  | smb1
  | smb2
  | smb3
  | smb4
  | smb5
  | smb6
  | smb7
  | bcc
  | bcs
  | beq
  | bne
  | bmi
  | bpl
  | bvc
  | bvs
  | bra
  | bbr0
  | bbr1
  | bbr2
  | bbr3
  | bbr4
  | bbr5
  | bbr6
  | bbr7
  | bbs0
  | bbs1
  | bbs2
  | bbs3
  | bbs4
  | bbs5
  | bbs6
  | bbs7
  | jmp
  | jsr
  | rts
  | rti
  | brk
  | clc
  | sec
  | cld
  | sed
  | cli
  | sei
  | clv
  | nop
  | wai
  | stp
  | undefined
  | opBreakpoint
  | opRegdump
  | opMemdump
deriving DecidableEq, Repr

/-- The addressing mode of an address operand. -/
def Ea.mode : Ea → AddrMode
  | .zp _ => .zeroPage
  | .zpX _ => .zeroPageX
  | .zpY _ => .zeroPageY
  | .abs _ => .absolute
  | .absX _ => .absoluteX
  | .absY _ => .absoluteY
  | .zpInd _ => .zeroPageIndirect
  | .zpXInd _ => .zeroPageXIndirect
  | .zpIndY _ => .zeroPageIndirectY

/-- The addressing mode of a read operand. -/
def Src.mode : Src → AddrMode
  | .imm _ => .immediate
  | .mem ea => ea.mode

/-- The addressing mode of a read-modify-write operand. -/
def Rmw.mode : Rmw → AddrMode
  | .acc => .accumulator
  | .mem ea => ea.mode

/-- The addressing mode of a jump operand. -/
def JmpOperand.mode : JmpOperand → AddrMode
  | .abs _ => .absolute
  | .ind _ => .absoluteIndirect
  | .indX _ => .absoluteXIndirect

/-- The opcode byte of an undefined value. -/
def UndefForm.opcode : UndefForm → Byte
  | .one op => op
  | .imm op _ => op
  | .zp op _ => op
  | .zpX op _ => op
  | .abs op _ => op

/-- The addressing mode whose operand bytes an undefined value consumes under `wdc_nop` (30 R65). -/
def UndefForm.mode : UndefForm → AddrMode
  | .one _ => .implied
  | .imm _ _ => .immediate
  | .zp _ _ => .zeroPage
  | .zpX _ _ => .zeroPageX
  | .abs _ _ => .absolute

/-- The primary addressing mode of an instruction's descriptor (30 R67, R70). -/
def Instr.mode : Instr → AddrMode
  | .lda op => op.mode
  | .ldx op => op.mode
  | .ldy op => op.mode
  | .sta ea => ea.mode
  | .stx ea => ea.mode
  | .sty ea => ea.mode
  | .stz ea => ea.mode
  | .tax => .implied
  | .tay => .implied
  | .txa => .implied
  | .tya => .implied
  | .tsx => .implied
  | .txs => .implied
  | .pha => .implied
  | .phx => .implied
  | .phy => .implied
  | .php => .implied
  | .pla => .implied
  | .plx => .implied
  | .ply => .implied
  | .plp => .implied
  | .adc op => op.mode
  | .sbc op => op.mode
  | .and op => op.mode
  | .ora op => op.mode
  | .eor op => op.mode
  | .cmp op => op.mode
  | .cpx op => op.mode
  | .cpy op => op.mode
  | .bit op => op.mode
  | .tsb ea => ea.mode
  | .trb ea => ea.mode
  | .inc op => op.mode
  | .dec op => op.mode
  | .inx => .implied
  | .iny => .implied
  | .dex => .implied
  | .dey => .implied
  | .asl op => op.mode
  | .lsr op => op.mode
  | .rol op => op.mode
  | .ror op => op.mode
  | .rmb0 _ => .zeroPage
  | .rmb1 _ => .zeroPage
  | .rmb2 _ => .zeroPage
  | .rmb3 _ => .zeroPage
  | .rmb4 _ => .zeroPage
  | .rmb5 _ => .zeroPage
  | .rmb6 _ => .zeroPage
  | .rmb7 _ => .zeroPage
  | .smb0 _ => .zeroPage
  | .smb1 _ => .zeroPage
  | .smb2 _ => .zeroPage
  | .smb3 _ => .zeroPage
  | .smb4 _ => .zeroPage
  | .smb5 _ => .zeroPage
  | .smb6 _ => .zeroPage
  | .smb7 _ => .zeroPage
  | .bcc _ => .programCounterRelative
  | .bcs _ => .programCounterRelative
  | .beq _ => .programCounterRelative
  | .bne _ => .programCounterRelative
  | .bmi _ => .programCounterRelative
  | .bpl _ => .programCounterRelative
  | .bvc _ => .programCounterRelative
  | .bvs _ => .programCounterRelative
  | .bra _ => .programCounterRelative
  | .bbr0 _ _ => .zeroPage
  | .bbr1 _ _ => .zeroPage
  | .bbr2 _ _ => .zeroPage
  | .bbr3 _ _ => .zeroPage
  | .bbr4 _ _ => .zeroPage
  | .bbr5 _ _ => .zeroPage
  | .bbr6 _ _ => .zeroPage
  | .bbr7 _ _ => .zeroPage
  | .bbs0 _ _ => .zeroPage
  | .bbs1 _ _ => .zeroPage
  | .bbs2 _ _ => .zeroPage
  | .bbs3 _ _ => .zeroPage
  | .bbs4 _ _ => .zeroPage
  | .bbs5 _ _ => .zeroPage
  | .bbs6 _ _ => .zeroPage
  | .bbs7 _ _ => .zeroPage
  | .jmp op => op.mode
  | .jsr _ => .absolute
  | .rts => .implied
  | .rti => .implied
  | .brk => .implied
  | .clc => .implied
  | .sec => .implied
  | .cld => .implied
  | .sed => .implied
  | .cli => .implied
  | .sei => .implied
  | .clv => .implied
  | .nop => .implied
  | .wai => .implied
  | .stp => .implied
  | .undefined form => form.mode
  | .opBreakpoint => .implied
  | .opRegdump => .implied
  | .opMemdump => .implied

/-- The mnemonic tag of an instruction. -/
def Instr.mnemonic : Instr → Mnemonic
  | .lda _ => .lda
  | .ldx _ => .ldx
  | .ldy _ => .ldy
  | .sta _ => .sta
  | .stx _ => .stx
  | .sty _ => .sty
  | .stz _ => .stz
  | .tax => .tax
  | .tay => .tay
  | .txa => .txa
  | .tya => .tya
  | .tsx => .tsx
  | .txs => .txs
  | .pha => .pha
  | .phx => .phx
  | .phy => .phy
  | .php => .php
  | .pla => .pla
  | .plx => .plx
  | .ply => .ply
  | .plp => .plp
  | .adc _ => .adc
  | .sbc _ => .sbc
  | .and _ => .and
  | .ora _ => .ora
  | .eor _ => .eor
  | .cmp _ => .cmp
  | .cpx _ => .cpx
  | .cpy _ => .cpy
  | .bit _ => .bit
  | .tsb _ => .tsb
  | .trb _ => .trb
  | .inc _ => .inc
  | .dec _ => .dec
  | .inx => .inx
  | .iny => .iny
  | .dex => .dex
  | .dey => .dey
  | .asl _ => .asl
  | .lsr _ => .lsr
  | .rol _ => .rol
  | .ror _ => .ror
  | .rmb0 _ => .rmb0
  | .rmb1 _ => .rmb1
  | .rmb2 _ => .rmb2
  | .rmb3 _ => .rmb3
  | .rmb4 _ => .rmb4
  | .rmb5 _ => .rmb5
  | .rmb6 _ => .rmb6
  | .rmb7 _ => .rmb7
  | .smb0 _ => .smb0
  | .smb1 _ => .smb1
  | .smb2 _ => .smb2
  | .smb3 _ => .smb3
  | .smb4 _ => .smb4
  | .smb5 _ => .smb5
  | .smb6 _ => .smb6
  | .smb7 _ => .smb7
  | .bcc _ => .bcc
  | .bcs _ => .bcs
  | .beq _ => .beq
  | .bne _ => .bne
  | .bmi _ => .bmi
  | .bpl _ => .bpl
  | .bvc _ => .bvc
  | .bvs _ => .bvs
  | .bra _ => .bra
  | .bbr0 _ _ => .bbr0
  | .bbr1 _ _ => .bbr1
  | .bbr2 _ _ => .bbr2
  | .bbr3 _ _ => .bbr3
  | .bbr4 _ _ => .bbr4
  | .bbr5 _ _ => .bbr5
  | .bbr6 _ _ => .bbr6
  | .bbr7 _ _ => .bbr7
  | .bbs0 _ _ => .bbs0
  | .bbs1 _ _ => .bbs1
  | .bbs2 _ _ => .bbs2
  | .bbs3 _ _ => .bbs3
  | .bbs4 _ _ => .bbs4
  | .bbs5 _ _ => .bbs5
  | .bbs6 _ _ => .bbs6
  | .bbs7 _ _ => .bbs7
  | .jmp _ => .jmp
  | .jsr _ => .jsr
  | .rts => .rts
  | .rti => .rti
  | .brk => .brk
  | .clc => .clc
  | .sec => .sec
  | .cld => .cld
  | .sed => .sed
  | .cli => .cli
  | .sei => .sei
  | .clv => .clv
  | .nop => .nop
  | .wai => .wai
  | .stp => .stp
  | .undefined _ => .undefined
  | .opBreakpoint => .opBreakpoint
  | .opRegdump => .opRegdump
  | .opMemdump => .opMemdump

/-- The secondary addressing mode of a mnemonic: only BBR and BBS have one (30 R70). -/
def Mnemonic.secondaryMode : Mnemonic → Option AddrMode
  | .bbr0 | .bbr1 | .bbr2 | .bbr3 | .bbr4 | .bbr5 | .bbr6 | .bbr7 => some .programCounterRelative
  | .bbs0 | .bbs1 | .bbs2 | .bbs3 | .bbs4 | .bbs5 | .bbs6 | .bbs7 => some .programCounterRelative
  | _ => none

/-- The operand bytes an addressing mode consumes (30 R61, 41 R100 to R117). -/
def AddrMode.operandBytes : AddrMode → Nat
  | .implied => 0
  | .accumulator => 0
  | .immediate => 1
  | .absolute => 2
  | .absoluteX => 2
  | .absoluteY => 2
  | .absoluteIndirect => 2
  | .absoluteXIndirect => 2
  | .zeroPage => 1
  | .zeroPageX => 1
  | .zeroPageY => 1
  | .zeroPageIndirect => 1
  | .zeroPageXIndirect => 1
  | .zeroPageIndirectY => 1
  | .programCounterRelative => 1

end Sys2Proof
end

