-- ==== Sys2Proof/WellFormed.lean ====
section
/-! DEFINITION. Which instructions exist: the addressing modes each mnemonic accepts (41_addressing.md R120), the
undefined opcode values by form (30_encoding.md R65), and which assignments of the debug opcodes are legal (30 R72). -/

namespace Sys2Proof

/-- The eight memory modes of LDA, STA, ADC, SBC, AND, ORA, EOR and CMP; all of them but STA also have Immediate
(42 R130, R133; 43 R170 to R175). -/
def accumulatorModes : List AddrMode :=
  [.zeroPage, .zeroPageX, .absolute, .absoluteX, .absoluteY, .zeroPageXIndirect, .zeroPageIndirectY, .zeroPageIndirect]

/-- The modes of the read-modify-write instructions (43 R181, R182; 44 R210 to R213). -/
def modifyModes : List AddrMode :=
  [.accumulator, .zeroPage, .zeroPageX, .absolute, .absoluteX]

/-- The undefined opcode values that are one byte long (30 R65). -/
def undefOneByte : List Byte :=
  [0x03, 0x13, 0x23, 0x33, 0x43, 0x53, 0x63, 0x73, 0x83, 0x93, 0xA3, 0xB3, 0xC3, 0xD3, 0xE3, 0xF3]
  ++ [0x0B, 0x1B, 0x2B, 0x3B, 0x4B, 0x5B, 0x6B, 0x7B, 0x8B, 0x9B, 0xAB, 0xBB, 0xEB, 0xFB]

/-- The undefined opcode values with an imm8 byte (30 R65). -/
def undefImm : List Byte := [0x02, 0x22, 0x42, 0x62, 0x82, 0xC2, 0xE2]

/-- The undefined opcode value with a zp8 byte of base cost 3 (30 R65). -/
def undefZp : List Byte := [0x44]

/-- The undefined opcode values with a zp8 byte of base cost 4 (30 R65; the table's mode for them is ZeroPageX). -/
def undefZpX : List Byte := [0x54, 0xD4, 0xF4]

/-- The undefined opcode values with two address bytes (30 R65). -/
def undefAbs : List Byte := [0x5C, 0xDC, 0xFC]

/-- The 44 undefined opcode values (30 R65). -/
def undefinedOpcodes : List Byte := undefImm ++ undefOneByte ++ undefZp ++ undefZpX ++ undefAbs

/-- The values `DEBUG_OPCODES` assigns. -/
def DebugOpcodes.values (dbg : DebugOpcodes) : List Byte :=
  dbg.breakpoint.toList ++ dbg.regdump.toList ++ dbg.memdump.toList

/-- A legal assignment: the values are undefined opcode values and distinct (00 R6, 30 R72). -/
def DebugOpcodes.wf (dbg : DebugOpcodes) : Bool :=
  decide (∀ b ∈ dbg.values, b ∈ undefinedOpcodes) && decide dbg.values.Nodup

/-- Legal parameters. -/
def Params.wf (p : Params) : Bool := p.debugOpcodes.wf

/-- The form of an undefined value is the one 30 R65 gives it. -/
def UndefForm.wf : UndefForm → Bool
  | .one op => decide (op ∈ undefOneByte)
  | .imm op _ => decide (op ∈ undefImm)
  | .zp op _ => decide (op ∈ undefZp)
  | .zpX op _ => decide (op ∈ undefZpX)
  | .abs op _ => decide (op ∈ undefAbs)

/-- The addressing modes a mnemonic accepts: its rows of the opcode map (41 R120, 30 R64). -/
def Mnemonic.allowedModes : Mnemonic → List AddrMode
  | .lda => .immediate :: accumulatorModes
  | .ldx => [.immediate, .zeroPage, .zeroPageY, .absolute, .absoluteY]
  | .ldy => [.immediate, .zeroPage, .zeroPageX, .absolute, .absoluteX]
  | .sta => accumulatorModes
  | .stx => [.zeroPage, .zeroPageY, .absolute]
  | .sty => [.zeroPage, .zeroPageX, .absolute]
  | .stz => [.zeroPage, .zeroPageX, .absolute, .absoluteX]
  | .tax => [.implied]
  | .tay => [.implied]
  | .txa => [.implied]
  | .tya => [.implied]
  | .tsx => [.implied]
  | .txs => [.implied]
  | .pha => [.implied]
  | .phx => [.implied]
  | .phy => [.implied]
  | .php => [.implied]
  | .pla => [.implied]
  | .plx => [.implied]
  | .ply => [.implied]
  | .plp => [.implied]
  | .adc => .immediate :: accumulatorModes
  | .sbc => .immediate :: accumulatorModes
  | .and => .immediate :: accumulatorModes
  | .ora => .immediate :: accumulatorModes
  | .eor => .immediate :: accumulatorModes
  | .cmp => .immediate :: accumulatorModes
  | .cpx => [.immediate, .zeroPage, .absolute]
  | .cpy => [.immediate, .zeroPage, .absolute]
  | .bit => [.immediate, .zeroPage, .zeroPageX, .absolute, .absoluteX]
  | .tsb => [.zeroPage, .absolute]
  | .trb => [.zeroPage, .absolute]
  | .inc => modifyModes
  | .dec => modifyModes
  | .inx => [.implied]
  | .iny => [.implied]
  | .dex => [.implied]
  | .dey => [.implied]
  | .asl => modifyModes
  | .lsr => modifyModes
  | .rol => modifyModes
  | .ror => modifyModes
  | .rmb0 => [.zeroPage]
  | .rmb1 => [.zeroPage]
  | .rmb2 => [.zeroPage]
  | .rmb3 => [.zeroPage]
  | .rmb4 => [.zeroPage]
  | .rmb5 => [.zeroPage]
  | .rmb6 => [.zeroPage]
  | .rmb7 => [.zeroPage]
  | .smb0 => [.zeroPage]
  | .smb1 => [.zeroPage]
  | .smb2 => [.zeroPage]
  | .smb3 => [.zeroPage]
  | .smb4 => [.zeroPage]
  | .smb5 => [.zeroPage]
  | .smb6 => [.zeroPage]
  | .smb7 => [.zeroPage]
  | .bcc => [.programCounterRelative]
  | .bcs => [.programCounterRelative]
  | .beq => [.programCounterRelative]
  | .bne => [.programCounterRelative]
  | .bmi => [.programCounterRelative]
  | .bpl => [.programCounterRelative]
  | .bvc => [.programCounterRelative]
  | .bvs => [.programCounterRelative]
  | .bra => [.programCounterRelative]
  | .bbr0 => [.zeroPage]
  | .bbr1 => [.zeroPage]
  | .bbr2 => [.zeroPage]
  | .bbr3 => [.zeroPage]
  | .bbr4 => [.zeroPage]
  | .bbr5 => [.zeroPage]
  | .bbr6 => [.zeroPage]
  | .bbr7 => [.zeroPage]
  | .bbs0 => [.zeroPage]
  | .bbs1 => [.zeroPage]
  | .bbs2 => [.zeroPage]
  | .bbs3 => [.zeroPage]
  | .bbs4 => [.zeroPage]
  | .bbs5 => [.zeroPage]
  | .bbs6 => [.zeroPage]
  | .bbs7 => [.zeroPage]
  | .jmp => [.absolute, .absoluteIndirect, .absoluteXIndirect]
  | .jsr => [.absolute]
  | .rts => [.implied]
  | .rti => [.implied]
  | .brk => [.implied]
  | .clc => [.implied]
  | .sec => [.implied]
  | .cld => [.implied]
  | .sed => [.implied]
  | .cli => [.implied]
  | .sei => [.implied]
  | .clv => [.implied]
  | .nop => [.implied]
  | .wai => [.implied]
  | .stp => [.implied]
  | .undefined => [.implied, .immediate, .zeroPage, .zeroPageX, .absolute]
  | .opBreakpoint => [.implied]
  | .opRegdump => [.implied]
  | .opMemdump => [.implied]

/-- An instruction that some byte string decodes to, under the debug opcodes `dbg`: its mnemonic has its addressing
mode; an undefined value has its own form and is not taken by a debug opcode; a debug opcode is assigned. -/
def Instr.wellFormed (dbg : DebugOpcodes) (i : Instr) : Bool :=
  decide (i.mode ∈ i.mnemonic.allowedModes) &&
  match i with
  | .undefined form => form.wf && decide (form.opcode ∉ dbg.values)
  | .opBreakpoint => dbg.breakpoint.isSome
  | .opRegdump => dbg.regdump.isSome
  | .opMemdump => dbg.memdump.isSome
  | _ => true

end Sys2Proof
end

