-- ==== Sys2Proof/Decode.lean ====
section
/-! DEFINITION. Decoding: the opcode map of 30_encoding.md R64 and R65, row by row; the instruction descriptors and the
cycle table (R66 to R70); then the encoder, from the opcode lists of the instruction rules (42 to 46). The map and the
lists are two places of the spec, and the round trip compares them. -/

namespace Sys2Proof

/-- Bits 7 to 0 of a word (00 R7). -/
def loByte (w : Word) : Byte := w.setWidth 8

/-- Bits 15 to 8 of a word (00 R7). -/
def hiByte (w : Word) : Byte := (w >>> 8).setWidth 8

/-- The word with low byte `lo` and high byte `hi` (00 R7, 20 R45). -/
def joinBytes (lo hi : Byte) : Word := lo.setWidth 16 ||| (hi.setWidth 16 <<< 8)

/-- A byte extended with zeros (00 R7). -/
def zext16 (b : Byte) : Word := b.setWidth 16

/-- A byte read as a two's-complement number, extended to 16 bits (00 R7). -/
def sext16 (b : Byte) : Word := b.signExtend 16

/-- Row 0x0 of the opcode map: the instruction whose opcode has high nibble 0x0 and low nibble `lo` (columns 0x0 to 0xF,
the last arm column 0xF), with operand bytes `b1` and `b2` (30 R64, R65). -/
def decodeRow0 (b1 b2 : Byte) (lo : Nat) : Instr :=
  match lo with
  | 0x0 => .brk
  | 0x1 => .ora (.mem (.zpXInd b1))
  | 0x2 => .undefined (.imm 0x02 b1)
  | 0x3 => .undefined (.one 0x03)
  | 0x4 => .tsb (.zp b1)
  | 0x5 => .ora (.mem (.zp b1))
  | 0x6 => .asl (.mem (.zp b1))
  | 0x7 => .rmb0 b1
  | 0x8 => .php
  | 0x9 => .ora (.imm b1)
  | 0xA => .asl .acc
  | 0xB => .undefined (.one 0x0B)
  | 0xC => .tsb (.abs (joinBytes b1 b2))
  | 0xD => .ora (.mem (.abs (joinBytes b1 b2)))
  | 0xE => .asl (.mem (.abs (joinBytes b1 b2)))
  | _ => .bbr0 b1 b2

/-- Row 0x1 of the opcode map: the instruction whose opcode has high nibble 0x1 and low nibble `lo` (columns 0x0 to 0xF,
the last arm column 0xF), with operand bytes `b1` and `b2` (30 R64, R65). -/
def decodeRow1 (b1 b2 : Byte) (lo : Nat) : Instr :=
  match lo with
  | 0x0 => .bpl b1
  | 0x1 => .ora (.mem (.zpIndY b1))
  | 0x2 => .ora (.mem (.zpInd b1))
  | 0x3 => .undefined (.one 0x13)
  | 0x4 => .trb (.zp b1)
  | 0x5 => .ora (.mem (.zpX b1))
  | 0x6 => .asl (.mem (.zpX b1))
  | 0x7 => .rmb1 b1
  | 0x8 => .clc
  | 0x9 => .ora (.mem (.absY (joinBytes b1 b2)))
  | 0xA => .inc .acc
  | 0xB => .undefined (.one 0x1B)
  | 0xC => .trb (.abs (joinBytes b1 b2))
  | 0xD => .ora (.mem (.absX (joinBytes b1 b2)))
  | 0xE => .asl (.mem (.absX (joinBytes b1 b2)))
  | _ => .bbr1 b1 b2

/-- Row 0x2 of the opcode map: the instruction whose opcode has high nibble 0x2 and low nibble `lo` (columns 0x0 to 0xF,
the last arm column 0xF), with operand bytes `b1` and `b2` (30 R64, R65). -/
def decodeRow2 (b1 b2 : Byte) (lo : Nat) : Instr :=
  match lo with
  | 0x0 => .jsr (joinBytes b1 b2)
  | 0x1 => .and (.mem (.zpXInd b1))
  | 0x2 => .undefined (.imm 0x22 b1)
  | 0x3 => .undefined (.one 0x23)
  | 0x4 => .bit (.mem (.zp b1))
  | 0x5 => .and (.mem (.zp b1))
  | 0x6 => .rol (.mem (.zp b1))
  | 0x7 => .rmb2 b1
  | 0x8 => .plp
  | 0x9 => .and (.imm b1)
  | 0xA => .rol .acc
  | 0xB => .undefined (.one 0x2B)
  | 0xC => .bit (.mem (.abs (joinBytes b1 b2)))
  | 0xD => .and (.mem (.abs (joinBytes b1 b2)))
  | 0xE => .rol (.mem (.abs (joinBytes b1 b2)))
  | _ => .bbr2 b1 b2

/-- Row 0x3 of the opcode map: the instruction whose opcode has high nibble 0x3 and low nibble `lo` (columns 0x0 to 0xF,
the last arm column 0xF), with operand bytes `b1` and `b2` (30 R64, R65). -/
def decodeRow3 (b1 b2 : Byte) (lo : Nat) : Instr :=
  match lo with
  | 0x0 => .bmi b1
  | 0x1 => .and (.mem (.zpIndY b1))
  | 0x2 => .and (.mem (.zpInd b1))
  | 0x3 => .undefined (.one 0x33)
  | 0x4 => .bit (.mem (.zpX b1))
  | 0x5 => .and (.mem (.zpX b1))
  | 0x6 => .rol (.mem (.zpX b1))
  | 0x7 => .rmb3 b1
  | 0x8 => .sec
  | 0x9 => .and (.mem (.absY (joinBytes b1 b2)))
  | 0xA => .dec .acc
  | 0xB => .undefined (.one 0x3B)
  | 0xC => .bit (.mem (.absX (joinBytes b1 b2)))
  | 0xD => .and (.mem (.absX (joinBytes b1 b2)))
  | 0xE => .rol (.mem (.absX (joinBytes b1 b2)))
  | _ => .bbr3 b1 b2

/-- Row 0x4 of the opcode map: the instruction whose opcode has high nibble 0x4 and low nibble `lo` (columns 0x0 to 0xF,
the last arm column 0xF), with operand bytes `b1` and `b2` (30 R64, R65). -/
def decodeRow4 (b1 b2 : Byte) (lo : Nat) : Instr :=
  match lo with
  | 0x0 => .rti
  | 0x1 => .eor (.mem (.zpXInd b1))
  | 0x2 => .undefined (.imm 0x42 b1)
  | 0x3 => .undefined (.one 0x43)
  | 0x4 => .undefined (.zp 0x44 b1)
  | 0x5 => .eor (.mem (.zp b1))
  | 0x6 => .lsr (.mem (.zp b1))
  | 0x7 => .rmb4 b1
  | 0x8 => .pha
  | 0x9 => .eor (.imm b1)
  | 0xA => .lsr .acc
  | 0xB => .undefined (.one 0x4B)
  | 0xC => .jmp (.abs (joinBytes b1 b2))
  | 0xD => .eor (.mem (.abs (joinBytes b1 b2)))
  | 0xE => .lsr (.mem (.abs (joinBytes b1 b2)))
  | _ => .bbr4 b1 b2

/-- Row 0x5 of the opcode map: the instruction whose opcode has high nibble 0x5 and low nibble `lo` (columns 0x0 to 0xF,
the last arm column 0xF), with operand bytes `b1` and `b2` (30 R64, R65). -/
def decodeRow5 (b1 b2 : Byte) (lo : Nat) : Instr :=
  match lo with
  | 0x0 => .bvc b1
  | 0x1 => .eor (.mem (.zpIndY b1))
  | 0x2 => .eor (.mem (.zpInd b1))
  | 0x3 => .undefined (.one 0x53)
  | 0x4 => .undefined (.zpX 0x54 b1)
  | 0x5 => .eor (.mem (.zpX b1))
  | 0x6 => .lsr (.mem (.zpX b1))
  | 0x7 => .rmb5 b1
  | 0x8 => .cli
  | 0x9 => .eor (.mem (.absY (joinBytes b1 b2)))
  | 0xA => .phy
  | 0xB => .undefined (.one 0x5B)
  | 0xC => .undefined (.abs 0x5C (joinBytes b1 b2))
  | 0xD => .eor (.mem (.absX (joinBytes b1 b2)))
  | 0xE => .lsr (.mem (.absX (joinBytes b1 b2)))
  | _ => .bbr5 b1 b2

/-- Row 0x6 of the opcode map: the instruction whose opcode has high nibble 0x6 and low nibble `lo` (columns 0x0 to 0xF,
the last arm column 0xF), with operand bytes `b1` and `b2` (30 R64, R65). -/
def decodeRow6 (b1 b2 : Byte) (lo : Nat) : Instr :=
  match lo with
  | 0x0 => .rts
  | 0x1 => .adc (.mem (.zpXInd b1))
  | 0x2 => .undefined (.imm 0x62 b1)
  | 0x3 => .undefined (.one 0x63)
  | 0x4 => .stz (.zp b1)
  | 0x5 => .adc (.mem (.zp b1))
  | 0x6 => .ror (.mem (.zp b1))
  | 0x7 => .rmb6 b1
  | 0x8 => .pla
  | 0x9 => .adc (.imm b1)
  | 0xA => .ror .acc
  | 0xB => .undefined (.one 0x6B)
  | 0xC => .jmp (.ind (joinBytes b1 b2))
  | 0xD => .adc (.mem (.abs (joinBytes b1 b2)))
  | 0xE => .ror (.mem (.abs (joinBytes b1 b2)))
  | _ => .bbr6 b1 b2

/-- Row 0x7 of the opcode map: the instruction whose opcode has high nibble 0x7 and low nibble `lo` (columns 0x0 to 0xF,
the last arm column 0xF), with operand bytes `b1` and `b2` (30 R64, R65). -/
def decodeRow7 (b1 b2 : Byte) (lo : Nat) : Instr :=
  match lo with
  | 0x0 => .bvs b1
  | 0x1 => .adc (.mem (.zpIndY b1))
  | 0x2 => .adc (.mem (.zpInd b1))
  | 0x3 => .undefined (.one 0x73)
  | 0x4 => .stz (.zpX b1)
  | 0x5 => .adc (.mem (.zpX b1))
  | 0x6 => .ror (.mem (.zpX b1))
  | 0x7 => .rmb7 b1
  | 0x8 => .sei
  | 0x9 => .adc (.mem (.absY (joinBytes b1 b2)))
  | 0xA => .ply
  | 0xB => .undefined (.one 0x7B)
  | 0xC => .jmp (.indX (joinBytes b1 b2))
  | 0xD => .adc (.mem (.absX (joinBytes b1 b2)))
  | 0xE => .ror (.mem (.absX (joinBytes b1 b2)))
  | _ => .bbr7 b1 b2

/-- Row 0x8 of the opcode map: the instruction whose opcode has high nibble 0x8 and low nibble `lo` (columns 0x0 to 0xF,
the last arm column 0xF), with operand bytes `b1` and `b2` (30 R64, R65). -/
def decodeRow8 (b1 b2 : Byte) (lo : Nat) : Instr :=
  match lo with
  | 0x0 => .bra b1
  | 0x1 => .sta (.zpXInd b1)
  | 0x2 => .undefined (.imm 0x82 b1)
  | 0x3 => .undefined (.one 0x83)
  | 0x4 => .sty (.zp b1)
  | 0x5 => .sta (.zp b1)
  | 0x6 => .stx (.zp b1)
  | 0x7 => .smb0 b1
  | 0x8 => .dey
  | 0x9 => .bit (.imm b1)
  | 0xA => .txa
  | 0xB => .undefined (.one 0x8B)
  | 0xC => .sty (.abs (joinBytes b1 b2))
  | 0xD => .sta (.abs (joinBytes b1 b2))
  | 0xE => .stx (.abs (joinBytes b1 b2))
  | _ => .bbs0 b1 b2

/-- Row 0x9 of the opcode map: the instruction whose opcode has high nibble 0x9 and low nibble `lo` (columns 0x0 to 0xF,
the last arm column 0xF), with operand bytes `b1` and `b2` (30 R64, R65). -/
def decodeRow9 (b1 b2 : Byte) (lo : Nat) : Instr :=
  match lo with
  | 0x0 => .bcc b1
  | 0x1 => .sta (.zpIndY b1)
  | 0x2 => .sta (.zpInd b1)
  | 0x3 => .undefined (.one 0x93)
  | 0x4 => .sty (.zpX b1)
  | 0x5 => .sta (.zpX b1)
  | 0x6 => .stx (.zpY b1)
  | 0x7 => .smb1 b1
  | 0x8 => .tya
  | 0x9 => .sta (.absY (joinBytes b1 b2))
  | 0xA => .txs
  | 0xB => .undefined (.one 0x9B)
  | 0xC => .stz (.abs (joinBytes b1 b2))
  | 0xD => .sta (.absX (joinBytes b1 b2))
  | 0xE => .stz (.absX (joinBytes b1 b2))
  | _ => .bbs1 b1 b2

/-- Row 0xA of the opcode map: the instruction whose opcode has high nibble 0xA and low nibble `lo` (columns 0x0 to 0xF,
the last arm column 0xF), with operand bytes `b1` and `b2` (30 R64, R65). -/
def decodeRowA (b1 b2 : Byte) (lo : Nat) : Instr :=
  match lo with
  | 0x0 => .ldy (.imm b1)
  | 0x1 => .lda (.mem (.zpXInd b1))
  | 0x2 => .ldx (.imm b1)
  | 0x3 => .undefined (.one 0xA3)
  | 0x4 => .ldy (.mem (.zp b1))
  | 0x5 => .lda (.mem (.zp b1))
  | 0x6 => .ldx (.mem (.zp b1))
  | 0x7 => .smb2 b1
  | 0x8 => .tay
  | 0x9 => .lda (.imm b1)
  | 0xA => .tax
  | 0xB => .undefined (.one 0xAB)
  | 0xC => .ldy (.mem (.abs (joinBytes b1 b2)))
  | 0xD => .lda (.mem (.abs (joinBytes b1 b2)))
  | 0xE => .ldx (.mem (.abs (joinBytes b1 b2)))
  | _ => .bbs2 b1 b2

/-- Row 0xB of the opcode map: the instruction whose opcode has high nibble 0xB and low nibble `lo` (columns 0x0 to 0xF,
the last arm column 0xF), with operand bytes `b1` and `b2` (30 R64, R65). -/
def decodeRowB (b1 b2 : Byte) (lo : Nat) : Instr :=
  match lo with
  | 0x0 => .bcs b1
  | 0x1 => .lda (.mem (.zpIndY b1))
  | 0x2 => .lda (.mem (.zpInd b1))
  | 0x3 => .undefined (.one 0xB3)
  | 0x4 => .ldy (.mem (.zpX b1))
  | 0x5 => .lda (.mem (.zpX b1))
  | 0x6 => .ldx (.mem (.zpY b1))
  | 0x7 => .smb3 b1
  | 0x8 => .clv
  | 0x9 => .lda (.mem (.absY (joinBytes b1 b2)))
  | 0xA => .tsx
  | 0xB => .undefined (.one 0xBB)
  | 0xC => .ldy (.mem (.absX (joinBytes b1 b2)))
  | 0xD => .lda (.mem (.absX (joinBytes b1 b2)))
  | 0xE => .ldx (.mem (.absY (joinBytes b1 b2)))
  | _ => .bbs3 b1 b2

/-- Row 0xC of the opcode map: the instruction whose opcode has high nibble 0xC and low nibble `lo` (columns 0x0 to 0xF,
the last arm column 0xF), with operand bytes `b1` and `b2` (30 R64, R65). -/
def decodeRowC (b1 b2 : Byte) (lo : Nat) : Instr :=
  match lo with
  | 0x0 => .cpy (.imm b1)
  | 0x1 => .cmp (.mem (.zpXInd b1))
  | 0x2 => .undefined (.imm 0xC2 b1)
  | 0x3 => .undefined (.one 0xC3)
  | 0x4 => .cpy (.mem (.zp b1))
  | 0x5 => .cmp (.mem (.zp b1))
  | 0x6 => .dec (.mem (.zp b1))
  | 0x7 => .smb4 b1
  | 0x8 => .iny
  | 0x9 => .cmp (.imm b1)
  | 0xA => .dex
  | 0xB => .wai
  | 0xC => .cpy (.mem (.abs (joinBytes b1 b2)))
  | 0xD => .cmp (.mem (.abs (joinBytes b1 b2)))
  | 0xE => .dec (.mem (.abs (joinBytes b1 b2)))
  | _ => .bbs4 b1 b2

/-- Row 0xD of the opcode map: the instruction whose opcode has high nibble 0xD and low nibble `lo` (columns 0x0 to 0xF,
the last arm column 0xF), with operand bytes `b1` and `b2` (30 R64, R65). -/
def decodeRowD (b1 b2 : Byte) (lo : Nat) : Instr :=
  match lo with
  | 0x0 => .bne b1
  | 0x1 => .cmp (.mem (.zpIndY b1))
  | 0x2 => .cmp (.mem (.zpInd b1))
  | 0x3 => .undefined (.one 0xD3)
  | 0x4 => .undefined (.zpX 0xD4 b1)
  | 0x5 => .cmp (.mem (.zpX b1))
  | 0x6 => .dec (.mem (.zpX b1))
  | 0x7 => .smb5 b1
  | 0x8 => .cld
  | 0x9 => .cmp (.mem (.absY (joinBytes b1 b2)))
  | 0xA => .phx
  | 0xB => .stp
  | 0xC => .undefined (.abs 0xDC (joinBytes b1 b2))
  | 0xD => .cmp (.mem (.absX (joinBytes b1 b2)))
  | 0xE => .dec (.mem (.absX (joinBytes b1 b2)))
  | _ => .bbs5 b1 b2

/-- Row 0xE of the opcode map: the instruction whose opcode has high nibble 0xE and low nibble `lo` (columns 0x0 to 0xF,
the last arm column 0xF), with operand bytes `b1` and `b2` (30 R64, R65). -/
def decodeRowE (b1 b2 : Byte) (lo : Nat) : Instr :=
  match lo with
  | 0x0 => .cpx (.imm b1)
  | 0x1 => .sbc (.mem (.zpXInd b1))
  | 0x2 => .undefined (.imm 0xE2 b1)
  | 0x3 => .undefined (.one 0xE3)
  | 0x4 => .cpx (.mem (.zp b1))
  | 0x5 => .sbc (.mem (.zp b1))
  | 0x6 => .inc (.mem (.zp b1))
  | 0x7 => .smb6 b1
  | 0x8 => .inx
  | 0x9 => .sbc (.imm b1)
  | 0xA => .nop
  | 0xB => .undefined (.one 0xEB)
  | 0xC => .cpx (.mem (.abs (joinBytes b1 b2)))
  | 0xD => .sbc (.mem (.abs (joinBytes b1 b2)))
  | 0xE => .inc (.mem (.abs (joinBytes b1 b2)))
  | _ => .bbs6 b1 b2

/-- Row 0xF of the opcode map: the instruction whose opcode has high nibble 0xF and low nibble `lo` (columns 0x0 to 0xF,
the last arm column 0xF), with operand bytes `b1` and `b2` (30 R64, R65). -/
def decodeRowF (b1 b2 : Byte) (lo : Nat) : Instr :=
  match lo with
  | 0x0 => .beq b1
  | 0x1 => .sbc (.mem (.zpIndY b1))
  | 0x2 => .sbc (.mem (.zpInd b1))
  | 0x3 => .undefined (.one 0xF3)
  | 0x4 => .undefined (.zpX 0xF4 b1)
  | 0x5 => .sbc (.mem (.zpX b1))
  | 0x6 => .inc (.mem (.zpX b1))
  | 0x7 => .smb7 b1
  | 0x8 => .sed
  | 0x9 => .sbc (.mem (.absY (joinBytes b1 b2)))
  | 0xA => .plx
  | 0xB => .undefined (.one 0xFB)
  | 0xC => .undefined (.abs 0xFC (joinBytes b1 b2))
  | 0xD => .sbc (.mem (.absX (joinBytes b1 b2)))
  | 0xE => .inc (.mem (.absX (joinBytes b1 b2)))
  | _ => .bbs7 b1 b2

/-- The instruction at an opcode byte before any debug opcode is assigned (30 R64, R65). -/
def decodeMap (opcode b1 b2 : Byte) : Instr :=
  let lo := opcode.toNat % 16
  match opcode.toNat / 16 with
  | 0x0 => decodeRow0 b1 b2 lo
  | 0x1 => decodeRow1 b1 b2 lo
  | 0x2 => decodeRow2 b1 b2 lo
  | 0x3 => decodeRow3 b1 b2 lo
  | 0x4 => decodeRow4 b1 b2 lo
  | 0x5 => decodeRow5 b1 b2 lo
  | 0x6 => decodeRow6 b1 b2 lo
  | 0x7 => decodeRow7 b1 b2 lo
  | 0x8 => decodeRow8 b1 b2 lo
  | 0x9 => decodeRow9 b1 b2 lo
  | 0xA => decodeRowA b1 b2 lo
  | 0xB => decodeRowB b1 b2 lo
  | 0xC => decodeRowC b1 b2 lo
  | 0xD => decodeRowD b1 b2 lo
  | 0xE => decodeRowE b1 b2 lo
  | _ => decodeRowF b1 b2 lo

/-- The debug opcode that `dbg` places on a byte value, if any (30 R72). -/
def debugInstr (dbg : DebugOpcodes) (opcode : Byte) : Option Instr :=
  if dbg.breakpoint = some opcode then some .opBreakpoint
  else if dbg.regdump = some opcode then some .opRegdump
  else if dbg.memdump = some opcode then some .opMemdump
  else none

/-- The instruction with opcode byte `opcode` whose next two bytes are `b1` and `b2`: a debug opcode takes an
undefined value out of the undefined set and touches no defined one (30 R65, R72). -/
def decodeBytes (dbg : DebugOpcodes) (opcode b1 b2 : Byte) : Instr :=
  match decodeMap opcode b1 b2 with
  | .undefined form => (debugInstr dbg opcode).getD (.undefined form)
  | i => i

/-- The number of operand bytes: those of the primary and of the secondary mode (30 R61, R67, R70). -/
def Instr.operandBytes (i : Instr) : Nat :=
  i.mode.operandBytes + (i.mnemonic.secondaryMode.map AddrMode.operandBytes).getD 0

/-- The number of bytes of an instruction (30 R61). -/
def Instr.length (i : Instr) : Nat := 1 + i.operandBytes

/-- Why a byte string does not decode. -/
inductive DecodeError where
  /-- There is no byte. -/
  | noOpcode
  /-- The string ends before the instruction's last operand byte. -/
  | missingOperand
deriving DecidableEq, Repr

/-- Decode one instruction at the head of a byte string; answers it and the rest of the string. Total: every opcode
byte decodes, and a string that ends too soon is rejected by name. -/
def decode (dbg : DebugOpcodes) : List Byte → Except DecodeError (Instr × List Byte)
  | [] => .error .noOpcode
  | opcode :: rest =>
    let i := decodeBytes dbg opcode (rest.getD 0 0) (rest.getD 1 0)
    if i.operandBytes ≤ rest.length then .ok (i, rest.drop i.operandBytes) else .error .missingOperand

/-- The base cycle cost of every opcode, rows and columns as 30 R66 prints them (`CYCLE_TABLE`, 00 R6; an undefined
value's cost under `wdc_nop` stands in its cell). -/
def cycleTable : List (List Nat) :=
  [[7, 6, 2, 1, 5, 3, 5, 5, 3, 2, 2, 1, 6, 4, 6, 5],
   [2, 5, 5, 1, 5, 4, 6, 5, 2, 4, 2, 1, 6, 4, 6, 5],
   [6, 6, 2, 1, 3, 3, 5, 5, 4, 2, 2, 1, 4, 4, 6, 5],
   [2, 5, 5, 1, 4, 4, 6, 5, 2, 4, 2, 1, 4, 4, 6, 5],
   [6, 6, 2, 1, 3, 3, 5, 5, 3, 2, 2, 1, 3, 4, 6, 5],
   [2, 5, 5, 1, 4, 4, 6, 5, 2, 4, 3, 1, 8, 4, 6, 5],
   [6, 6, 2, 1, 3, 3, 5, 5, 4, 2, 2, 1, 6, 4, 6, 5],
   [2, 5, 5, 1, 4, 4, 6, 5, 2, 4, 4, 1, 6, 4, 6, 5],
   [2, 6, 2, 1, 3, 3, 3, 5, 2, 2, 2, 1, 4, 4, 4, 5],
   [2, 6, 5, 1, 4, 4, 4, 5, 2, 5, 2, 1, 4, 5, 5, 5],
   [2, 6, 2, 1, 3, 3, 3, 5, 2, 2, 2, 1, 4, 4, 4, 5],
   [2, 5, 5, 1, 4, 4, 4, 5, 2, 4, 2, 1, 4, 4, 4, 5],
   [2, 6, 2, 1, 3, 3, 5, 5, 2, 2, 2, 3, 4, 4, 6, 5],
   [2, 5, 5, 1, 4, 4, 6, 5, 2, 4, 3, 3, 4, 4, 7, 5],
   [2, 6, 2, 1, 3, 3, 5, 5, 2, 2, 2, 1, 4, 4, 6, 5],
   [2, 5, 5, 1, 4, 4, 6, 5, 2, 4, 4, 1, 4, 4, 7, 5]]

/-- The base cycle cost at an opcode (30 R66). -/
def cycleOf (opcode : Byte) : Nat :=
  (cycleTable.getD (opcode.toNat / 16) []).getD (opcode.toNat % 16) 0

/-! The encoder. Each opcode below is the one the instruction's own rule lists. -/

/-- The opcode that a row of `pairs` gives for an addressing mode. -/
def opcodeFor (mode : AddrMode) (pairs : List (AddrMode × Byte)) : Option Byte :=
  (pairs.find? (fun p => decide (p.1 = mode))).map Prod.snd

/-- The opcode of an instruction, from the "Opcodes" list of its rule; none for a form no rule lists and for the debug
opcodes, whose values are a parameter. -/
def Instr.tableOpcode : Instr → Option Byte
  | .lda op => opcodeFor op.mode
      [(.immediate, 0xA9), (.zeroPage, 0xA5), (.zeroPageX, 0xB5),
       (.absolute, 0xAD), (.absoluteX, 0xBD), (.absoluteY, 0xB9),
       (.zeroPageXIndirect, 0xA1), (.zeroPageIndirectY, 0xB1), (.zeroPageIndirect, 0xB2)]
  | .ldx op => opcodeFor op.mode
      [(.immediate, 0xA2), (.zeroPage, 0xA6), (.zeroPageY, 0xB6),
       (.absolute, 0xAE), (.absoluteY, 0xBE)]
  | .ldy op => opcodeFor op.mode
      [(.immediate, 0xA0), (.zeroPage, 0xA4), (.zeroPageX, 0xB4),
       (.absolute, 0xAC), (.absoluteX, 0xBC)]
  | .sta ea => opcodeFor ea.mode
      [(.zeroPage, 0x85), (.zeroPageX, 0x95), (.absolute, 0x8D),
       (.absoluteX, 0x9D), (.absoluteY, 0x99), (.zeroPageXIndirect, 0x81),
       (.zeroPageIndirectY, 0x91), (.zeroPageIndirect, 0x92)]
  | .stx ea => opcodeFor ea.mode [(.zeroPage, 0x86), (.zeroPageY, 0x96), (.absolute, 0x8E)]
  | .sty ea => opcodeFor ea.mode [(.zeroPage, 0x84), (.zeroPageX, 0x94), (.absolute, 0x8C)]
  | .stz ea => opcodeFor ea.mode [(.zeroPage, 0x64), (.zeroPageX, 0x74), (.absolute, 0x9C), (.absoluteX, 0x9E)]
  | .tax => some 0xAA
  | .tay => some 0xA8
  | .txa => some 0x8A
  | .tya => some 0x98
  | .tsx => some 0xBA
  | .txs => some 0x9A
  | .pha => some 0x48
  | .phx => some 0xDA
  | .phy => some 0x5A
  | .php => some 0x08
  | .pla => some 0x68
  | .plx => some 0xFA
  | .ply => some 0x7A
  | .plp => some 0x28
  | .adc op => opcodeFor op.mode
      [(.immediate, 0x69), (.zeroPage, 0x65), (.zeroPageX, 0x75),
       (.absolute, 0x6D), (.absoluteX, 0x7D), (.absoluteY, 0x79),
       (.zeroPageXIndirect, 0x61), (.zeroPageIndirectY, 0x71), (.zeroPageIndirect, 0x72)]
  | .sbc op => opcodeFor op.mode
      [(.immediate, 0xE9), (.zeroPage, 0xE5), (.zeroPageX, 0xF5),
       (.absolute, 0xED), (.absoluteX, 0xFD), (.absoluteY, 0xF9),
       (.zeroPageXIndirect, 0xE1), (.zeroPageIndirectY, 0xF1), (.zeroPageIndirect, 0xF2)]
  | .and op => opcodeFor op.mode
      [(.immediate, 0x29), (.zeroPage, 0x25), (.zeroPageX, 0x35),
       (.absolute, 0x2D), (.absoluteX, 0x3D), (.absoluteY, 0x39),
       (.zeroPageXIndirect, 0x21), (.zeroPageIndirectY, 0x31), (.zeroPageIndirect, 0x32)]
  | .ora op => opcodeFor op.mode
      [(.immediate, 0x09), (.zeroPage, 0x05), (.zeroPageX, 0x15),
       (.absolute, 0x0D), (.absoluteX, 0x1D), (.absoluteY, 0x19),
       (.zeroPageXIndirect, 0x01), (.zeroPageIndirectY, 0x11), (.zeroPageIndirect, 0x12)]
  | .eor op => opcodeFor op.mode
      [(.immediate, 0x49), (.zeroPage, 0x45), (.zeroPageX, 0x55),
       (.absolute, 0x4D), (.absoluteX, 0x5D), (.absoluteY, 0x59),
       (.zeroPageXIndirect, 0x41), (.zeroPageIndirectY, 0x51), (.zeroPageIndirect, 0x52)]
  | .cmp op => opcodeFor op.mode
      [(.immediate, 0xC9), (.zeroPage, 0xC5), (.zeroPageX, 0xD5),
       (.absolute, 0xCD), (.absoluteX, 0xDD), (.absoluteY, 0xD9),
       (.zeroPageXIndirect, 0xC1), (.zeroPageIndirectY, 0xD1), (.zeroPageIndirect, 0xD2)]
  | .cpx op => opcodeFor op.mode [(.immediate, 0xE0), (.zeroPage, 0xE4), (.absolute, 0xEC)]
  | .cpy op => opcodeFor op.mode [(.immediate, 0xC0), (.zeroPage, 0xC4), (.absolute, 0xCC)]
  | .bit op => opcodeFor op.mode
      [(.immediate, 0x89), (.zeroPage, 0x24), (.zeroPageX, 0x34),
       (.absolute, 0x2C), (.absoluteX, 0x3C)]
  | .tsb ea => opcodeFor ea.mode [(.zeroPage, 0x04), (.absolute, 0x0C)]
  | .trb ea => opcodeFor ea.mode [(.zeroPage, 0x14), (.absolute, 0x1C)]
  | .inc op => opcodeFor op.mode
      [(.accumulator, 0x1A), (.zeroPage, 0xE6), (.zeroPageX, 0xF6),
       (.absolute, 0xEE), (.absoluteX, 0xFE)]
  | .dec op => opcodeFor op.mode
      [(.accumulator, 0x3A), (.zeroPage, 0xC6), (.zeroPageX, 0xD6),
       (.absolute, 0xCE), (.absoluteX, 0xDE)]
  | .inx => some 0xE8
  | .iny => some 0xC8
  | .dex => some 0xCA
  | .dey => some 0x88
  | .asl op => opcodeFor op.mode
      [(.accumulator, 0x0A), (.zeroPage, 0x06), (.zeroPageX, 0x16),
       (.absolute, 0x0E), (.absoluteX, 0x1E)]
  | .lsr op => opcodeFor op.mode
      [(.accumulator, 0x4A), (.zeroPage, 0x46), (.zeroPageX, 0x56),
       (.absolute, 0x4E), (.absoluteX, 0x5E)]
  | .rol op => opcodeFor op.mode
      [(.accumulator, 0x2A), (.zeroPage, 0x26), (.zeroPageX, 0x36),
       (.absolute, 0x2E), (.absoluteX, 0x3E)]
  | .ror op => opcodeFor op.mode
      [(.accumulator, 0x6A), (.zeroPage, 0x66), (.zeroPageX, 0x76),
       (.absolute, 0x6E), (.absoluteX, 0x7E)]
  | .rmb0 _ => some 0x07
  | .rmb1 _ => some 0x17
  | .rmb2 _ => some 0x27
  | .rmb3 _ => some 0x37
  | .rmb4 _ => some 0x47
  | .rmb5 _ => some 0x57
  | .rmb6 _ => some 0x67
  | .rmb7 _ => some 0x77
  | .smb0 _ => some 0x87
  | .smb1 _ => some 0x97
  | .smb2 _ => some 0xA7
  | .smb3 _ => some 0xB7
  | .smb4 _ => some 0xC7
  | .smb5 _ => some 0xD7
  | .smb6 _ => some 0xE7
  | .smb7 _ => some 0xF7
  | .bcc _ => some 0x90
  | .bcs _ => some 0xB0
  | .beq _ => some 0xF0
  | .bne _ => some 0xD0
  | .bmi _ => some 0x30
  | .bpl _ => some 0x10
  | .bvc _ => some 0x50
  | .bvs _ => some 0x70
  | .bra _ => some 0x80
  | .bbr0 _ _ => some 0x0F
  | .bbr1 _ _ => some 0x1F
  | .bbr2 _ _ => some 0x2F
  | .bbr3 _ _ => some 0x3F
  | .bbr4 _ _ => some 0x4F
  | .bbr5 _ _ => some 0x5F
  | .bbr6 _ _ => some 0x6F
  | .bbr7 _ _ => some 0x7F
  | .bbs0 _ _ => some 0x8F
  | .bbs1 _ _ => some 0x9F
  | .bbs2 _ _ => some 0xAF
  | .bbs3 _ _ => some 0xBF
  | .bbs4 _ _ => some 0xCF
  | .bbs5 _ _ => some 0xDF
  | .bbs6 _ _ => some 0xEF
  | .bbs7 _ _ => some 0xFF
  | .jmp op => opcodeFor op.mode [(.absolute, 0x4C), (.absoluteIndirect, 0x6C), (.absoluteXIndirect, 0x7C)]
  | .jsr _ => some 0x20
  | .rts => some 0x60
  | .rti => some 0x40
  | .brk => some 0x00
  | .clc => some 0x18
  | .sec => some 0x38
  | .cld => some 0xD8
  | .sed => some 0xF8
  | .cli => some 0x58
  | .sei => some 0x78
  | .clv => some 0xB8
  | .nop => some 0xEA
  | .wai => some 0xCB
  | .stp => some 0xDB
  | .undefined form => some form.opcode
  | .opBreakpoint => none
  | .opRegdump => none
  | .opMemdump => none

/-- The opcode of an instruction under an assignment of the debug opcodes. -/
def Instr.opcode (dbg : DebugOpcodes) (i : Instr) : Option Byte :=
  match i with
  | .opBreakpoint => dbg.breakpoint
  | .opRegdump => dbg.regdump
  | .opMemdump => dbg.memdump
  | i => i.tableOpcode

/-- The operand bytes of an address operand, in address order (30 R61, R62). -/
def Ea.bytes : Ea → List Byte
  | .zp b => [b]
  | .zpX b => [b]
  | .zpY b => [b]
  | .abs w => [loByte w, hiByte w]
  | .absX w => [loByte w, hiByte w]
  | .absY w => [loByte w, hiByte w]
  | .zpInd b => [b]
  | .zpXInd b => [b]
  | .zpIndY b => [b]

/-- The operand bytes of a read operand. -/
def Src.bytes : Src → List Byte
  | .imm b => [b]
  | .mem ea => ea.bytes

/-- The operand bytes of a read-modify-write operand. -/
def Rmw.bytes : Rmw → List Byte
  | .acc => []
  | .mem ea => ea.bytes

/-- The operand bytes of a jump operand. -/
def JmpOperand.bytes : JmpOperand → List Byte
  | .abs w => [loByte w, hiByte w]
  | .ind w => [loByte w, hiByte w]
  | .indX w => [loByte w, hiByte w]

/-- The operand bytes of an undefined value's no-operation form. -/
def UndefForm.bytes : UndefForm → List Byte
  | .one _ => []
  | .imm _ b => [b]
  | .zp _ b => [b]
  | .zpX _ b => [b]
  | .abs _ w => [loByte w, hiByte w]

/-- The operand bytes of an instruction, in address order (30 R61). -/
def Instr.bytes : Instr → List Byte
  | .lda op => op.bytes
  | .ldx op => op.bytes
  | .ldy op => op.bytes
  | .sta ea => ea.bytes
  | .stx ea => ea.bytes
  | .sty ea => ea.bytes
  | .stz ea => ea.bytes
  | .tax => []
  | .tay => []
  | .txa => []
  | .tya => []
  | .tsx => []
  | .txs => []
  | .pha => []
  | .phx => []
  | .phy => []
  | .php => []
  | .pla => []
  | .plx => []
  | .ply => []
  | .plp => []
  | .adc op => op.bytes
  | .sbc op => op.bytes
  | .and op => op.bytes
  | .ora op => op.bytes
  | .eor op => op.bytes
  | .cmp op => op.bytes
  | .cpx op => op.bytes
  | .cpy op => op.bytes
  | .bit op => op.bytes
  | .tsb ea => ea.bytes
  | .trb ea => ea.bytes
  | .inc op => op.bytes
  | .dec op => op.bytes
  | .inx => []
  | .iny => []
  | .dex => []
  | .dey => []
  | .asl op => op.bytes
  | .lsr op => op.bytes
  | .rol op => op.bytes
  | .ror op => op.bytes
  | .rmb0 zp8 => [zp8]
  | .rmb1 zp8 => [zp8]
  | .rmb2 zp8 => [zp8]
  | .rmb3 zp8 => [zp8]
  | .rmb4 zp8 => [zp8]
  | .rmb5 zp8 => [zp8]
  | .rmb6 zp8 => [zp8]
  | .rmb7 zp8 => [zp8]
  | .smb0 zp8 => [zp8]
  | .smb1 zp8 => [zp8]
  | .smb2 zp8 => [zp8]
  | .smb3 zp8 => [zp8]
  | .smb4 zp8 => [zp8]
  | .smb5 zp8 => [zp8]
  | .smb6 zp8 => [zp8]
  | .smb7 zp8 => [zp8]
  | .bcc rel8 => [rel8]
  | .bcs rel8 => [rel8]
  | .beq rel8 => [rel8]
  | .bne rel8 => [rel8]
  | .bmi rel8 => [rel8]
  | .bpl rel8 => [rel8]
  | .bvc rel8 => [rel8]
  | .bvs rel8 => [rel8]
  | .bra rel8 => [rel8]
  | .bbr0 zp8 rel8 => [zp8, rel8]
  | .bbr1 zp8 rel8 => [zp8, rel8]
  | .bbr2 zp8 rel8 => [zp8, rel8]
  | .bbr3 zp8 rel8 => [zp8, rel8]
  | .bbr4 zp8 rel8 => [zp8, rel8]
  | .bbr5 zp8 rel8 => [zp8, rel8]
  | .bbr6 zp8 rel8 => [zp8, rel8]
  | .bbr7 zp8 rel8 => [zp8, rel8]
  | .bbs0 zp8 rel8 => [zp8, rel8]
  | .bbs1 zp8 rel8 => [zp8, rel8]
  | .bbs2 zp8 rel8 => [zp8, rel8]
  | .bbs3 zp8 rel8 => [zp8, rel8]
  | .bbs4 zp8 rel8 => [zp8, rel8]
  | .bbs5 zp8 rel8 => [zp8, rel8]
  | .bbs6 zp8 rel8 => [zp8, rel8]
  | .bbs7 zp8 rel8 => [zp8, rel8]
  | .jmp op => op.bytes
  | .jsr addr => [loByte addr, hiByte addr]
  | .rts => []
  | .rti => []
  | .brk => []
  | .clc => []
  | .sec => []
  | .cld => []
  | .sed => []
  | .cli => []
  | .sei => []
  | .clv => []
  | .nop => []
  | .wai => []
  | .stp => []
  | .undefined form => form.bytes
  | .opBreakpoint => []
  | .opRegdump => []
  | .opMemdump => []

/-- The bytes of an instruction: its opcode and its operand bytes; the empty string for a form that has no opcode. -/
def encode (dbg : DebugOpcodes) (i : Instr) : List Byte :=
  match i.opcode dbg with
  | some op => op :: i.bytes
  | none => []

/-! Descriptors and lookup (30 R67, R68). -/

/-- The base cycle cost of an instruction: `DEBUG_CYCLES` for a debug opcode, the cycle table's number at its opcode
otherwise (30 R66, R72; 40 R85). -/
def Instr.baseCycles (p : Params) (i : Instr) : Nat :=
  match i with
  | .opBreakpoint => p.debugCycles
  | .opRegdump => p.debugCycles
  | .opMemdump => p.debugCycles
  | i => (i.tableOpcode.map cycleOf).getD 0

/-- A row of the opcode table (00 R11 InstructionDescriptor, 30 R67). -/
structure Descriptor where
  opcode : Byte
  mnemonic : Mnemonic
  primaryMode : AddrMode
  secondaryMode : Option AddrMode
  operandBytes : Nat
  baseCycles : Nat
deriving DecidableEq, Repr

/-- The descriptor of an instruction at an opcode. -/
def Instr.descriptor (p : Params) (opcode : Byte) (i : Instr) : Descriptor :=
  { opcode := opcode, mnemonic := i.mnemonic, primaryMode := i.mode, secondaryMode := i.mnemonic.secondaryMode,
    operandBytes := i.operandBytes, baseCycles := i.baseCycles p }

/-- `lookup(opcode)` (30 R67, R65): no descriptor for an undefined value under `UNDEF_POLICY = fault`. -/
def lookup (p : Params) (opcode : Byte) : Option Descriptor :=
  match decodeBytes p.debugOpcodes opcode 0 0 with
  | .undefined form =>
    match p.undefPolicy with
    | .fault => none
    | .wdcNop => some ((Instr.undefined form).descriptor p opcode)
  | i => some (i.descriptor p opcode)

/-- Every byte value, in order. -/
def allBytes : List Byte := (List.range 256).map (BitVec.ofNat 8)

/-- `byMnemonic(tag)` (30 R68): the descriptors with that mnemonic, by opcode. -/
def byMnemonic (p : Params) (m : Mnemonic) : List Descriptor :=
  (allBytes.filterMap (lookup p)).filter (fun d => decide (d.mnemonic = m))

/-! The host's view of the opcode table. -/

/-- The first three bytes of an instruction whose bits are `w`, bit 0 the least significant bit of its first byte,
with every bit from `nbits` on 0. -/
def tableWordBytes (nbits w : Nat) : List Byte :=
  let v := w % 2 ^ nbits
  [BitVec.ofNat 8 v, BitVec.ofNat 8 (v / 256), BitVec.ofNat 8 (v / 65536)]

/-- The instruction the decoder reads from the bits `w` of a row of spec/opcode_table.json. -/
def decodeTableWord (nbits w : Nat) : Option Instr :=
  match decode DebugOpcodes.absent (tableWordBytes nbits w) with
  | .ok (i, _) => some i
  | .error _ => none

end Sys2Proof
end

