-- ==== Sys2Proof/Machine/State.lean ====
section
/-! DEFINITION. The machine's state as plain data (10_state.md), the reasons a step can stop, and the state after
reset. Memory is a list of cells in one canonical form. -/

namespace Sys2Proof.Machine

/-- The seven flags of P, each one stored bit (10 R17). -/
structure Flags where
  c : Bool
  z : Bool
  i : Bool
  d : Bool
  b : Bool
  v : Bool
  n : Bool
deriving DecidableEq, Repr

/-- Every flag 0. -/
def Flags.clear : Flags := { c := false, z := false, i := false, d := false, b := false, v := false, n := false }

/-- The 65,536 bytes of memory (10 R27, 20 R40): the bytes that differ from `memInit`, with their addresses. -/
abbrev Memory := List Host.Cell

/-- The canonical form from address `lo` on: addresses rise strictly from at least `lo`, lie in the address space, and
no byte listed equals what an unlisted address reads as. -/
def Memory.wfFrom : Nat → Memory → Bool
  | _, [] => true
  | lo, (k, b) :: rest =>
    decide (lo ≤ k) && decide (k < memoryBound) && decide (b ≠ memInit) && Memory.wfFrom (k + 1) rest

/-- Memory is in canonical form. -/
def Memory.wf (m : Memory) : Bool := Memory.wfFrom 0 m

/-- The execution controller's run state (10 R30, 60 R300). -/
inductive RunState where
  | running
  | paused
  | finished
deriving DecidableEq, Repr

/-- The outcome a completed step returns: Continue, Pause or Finished (40 R81). -/
inductive StepOutcome where
  | cont
  | pause
  | finished
deriving DecidableEq, Repr

/-- A fatal fault as `fault` records it: the kind, its value and PC_start (10 R31, 60 R290). -/
inductive FaultRecord where
  /-- The opcode byte has no descriptor. -/
  | unsupportedInstruction (opcode : Byte) (pc : Word)
  /-- The descriptor names a mode the resolver does not implement; no run reaches it (41 R119). -/
  | unsupportedAddressingMode (mode : AddrMode) (pc : Word)
deriving DecidableEq, Repr

/-- A diagnostic given to the logging collaborator (46 R276 to R278, 60 R305; DESIGN CHOICE, log 6: unsafe for a claim
about its content). -/
inductive Diagnostic where
  /-- The registers and the flags at the time of the diagnostic. -/
  | registers (a x y sp : Byte) (pc : Word) (flags : Flags)
  /-- A memory dump; its range and text are not specified. -/
  | memory
deriving DecidableEq, Repr

/-- The state of one CPU instance (10_state.md). The last three fields are the model's own (log 1, 4, 6). -/
structure State where
  /-- The accumulator A (10 R13). -/
  a : Byte
  /-- The index register X (10 R13). -/
  x : Byte
  /-- The index register Y (10 R13). -/
  y : Byte
  /-- The stack pointer S (10 R14). -/
  sp : Byte
  /-- The program counter PC (10 R15). -/
  pc : Word
  /-- The flags of P (10 R17). -/
  flags : Flags
  /-- M (10 R27). -/
  mem : Memory
  /-- The cycle cost of every completed step (10 R28). -/
  totalCycles : Nat
  /-- Controller state (10 R30). -/
  runState : RunState
  /-- The sticky single-step flag of the controller (10 R30). -/
  singleStep : Bool
  /-- None, or the fault that ended the instance (10 R31). -/
  fault : Option FaultRecord
  /-- The outcome the latest completed step returned (40 R81). -/
  outcome : StepOutcome
  /-- The diagnostics emitted so far, oldest first (46 R278). -/
  log : List Diagnostic
  /-- The parameters the instance was built with (00 R6). -/
  params : Params
deriving DecidableEq, Repr

/-- Why a step answers a fault. -/
inductive Fault where
  /-- Raised by `step` on an instance whose `fault` is set: it takes no further step (40 R82, 60 R292). Safe: the step
  before it answered the state that records the fault. -/
  | instanceFaulted (record : FaultRecord)
deriving DecidableEq, Repr

/-- Why a step answers a refusal. -/
inductive Refusal where
  /-- Raised by `exec` for an instruction that has no meaning yet. Safe. No instruction is left in this case. -/
  | notModelled (mnemonic : String)
deriving DecidableEq, Repr

/-- What a step and a meaning answer. -/
abbrev Answer := Host.Outcome State Fault Refusal

/-- A fresh instance after `Reset(start)` with start 0x0000 and the standard parameters (70 R320, R321, 10 R33).
The start address and the two OPEN parameters are DESIGN CHOICES, unsafe, log 2 and log 3. -/
def State.reset : State :=
  { a := 0x00, x := 0x00, y := 0x00, sp := 0xFF, pc := 0x0000, flags := Flags.clear, mem := [], totalCycles := 0,
    runState := .running, singleStep := false, fault := none, outcome := .cont, log := [],
    params := Params.standard }

end Sys2Proof.Machine
end

