-- ==== Sys2Proof/Machine/Flags.lean ====
section
/-! DEFINITION. Every flag computation and the ALU: packing P (10 R18), deriving Z and N (40 R87), binary and decimal
addition and subtraction (43 R170, R171), compare (R175), the shifts and rotates (44 R210 to R213) and the bit
operations. Sums are exact integers and are narrowed at the end (00 R7). -/

namespace Sys2Proof.Machine

/-- The packed status byte: C, Z, I, D, B, bit 5, V, N from bit 0 to bit 7 (10 R18). -/
def Flags.pack (f : Flags) : Byte :=
  BitVec.ofNat 8 (f.c.toNat + 2 * f.z.toNat + 4 * f.i.toNat + 8 * f.d.toNat + 16 * f.b.toNat + 32 * pBit5.toNat
    + 64 * f.v.toNat + 128 * f.n.toNat)

/-- The flags of a packed byte; bit 5 is ignored (10 R18). -/
def Flags.unpack (p : Byte) : Flags :=
  { c := p.getLsbD 0, z := p.getLsbD 1, i := p.getLsbD 2, d := p.getLsbD 3, b := p.getLsbD 4, v := p.getLsbD 6,
    n := p.getLsbD 7 }

/-- The status byte that PHP and vectored BRK push: bits 4 and 5 are 1 whatever B holds (10 R23, 42 R146, 45 R247). -/
def Flags.pushedByte (f : Flags) : Byte := f.pack ||| 0x30

/-- Z and N of a value (40 R87 deriveZN). -/
def Flags.withZN (f : Flags) (v : Byte) : Flags := { f with z := decide (v = 0), n := v.getLsbD 7 }

/-- Z alone. -/
def Flags.withZ (f : Flags) (z : Bool) : Flags := { f with z := z }

/-- C alone. -/
def Flags.withC (f : Flags) (c : Bool) : Flags := { f with c := c }

/-- C and V. -/
def Flags.withCV (f : Flags) (c v : Bool) : Flags := { f with c := c, v := v }

/-- N and V. -/
def Flags.withNV (f : Flags) (n v : Bool) : Flags := { f with n := n, v := v }

/-- A result byte with its carry and overflow. -/
structure AluResult where
  value : Byte
  carry : Bool
  overflow : Bool
deriving DecidableEq, Repr

/-- The signed-overflow bit of an addition of `a` and `op` with result `r` (43 R170). -/
def addOverflow (a op r : Byte) : Bool := decide (~~~(a ^^^ op) &&& (a ^^^ r) &&& 0x80 ≠ 0)

/-- The signed-overflow bit of a subtraction of `op` from `a` with result `r` (43 R171). -/
def subOverflow (a op r : Byte) : Bool := decide ((a ^^^ op) &&& (a ^^^ r) &&& 0x80 ≠ 0)

/-- ADC with D = 0 (43 R170). -/
def adcBinary (a op : Byte) (c : Bool) : AluResult :=
  let sum := a.toNat + op.toNat + c.toNat
  let r := BitVec.ofNat 8 sum
  { value := r, carry := decide (255 < sum), overflow := addOverflow a op r }

/-- The decimal correction of one nibble sum: 6 is added above 9 (43 R170). -/
def adjustNibble (n : Nat) : Nat := if 9 < n then n + 6 else n

/-- ADC with D = 1 (43 R170); V is the binary formula on the decimal result (90 C9). -/
def adcDecimal (a op : Byte) (c : Bool) : AluResult :=
  let lo := adjustNibble (a.toNat % 16 + op.toNat % 16 + c.toNat)
  let cl := if 15 < lo then 1 else 0
  let hi := adjustNibble (a.toNat / 16 + op.toNat / 16 + cl)
  let r := BitVec.ofNat 8 (16 * (hi % 16) + lo % 16)
  { value := r, carry := decide (15 < hi), overflow := addOverflow a op r }

/-- ADC: the D flag selects decimal arithmetic (10 R22, 43 R170). -/
def adcResult (d : Bool) (a op : Byte) (c : Bool) : AluResult :=
  if d then adcDecimal a op c else adcBinary a op c

/-- The exact difference a - op - (1 - c) (43 R171). -/
def sbcDiff (a op : Byte) (c : Bool) : Int := (a.toNat : Int) - (op.toNat : Int) - (1 - (c.toNat : Int))

/-- SBC with D = 0 (43 R171): C is 1 when there is no borrow. -/
def sbcBinary (a op : Byte) (c : Bool) : AluResult :=
  let diff := sbcDiff a op c
  let bin := BitVec.ofInt 8 diff
  { value := bin, carry := decide (0 ≤ diff), overflow := subOverflow a op bin }

/-- The value of SBC with D = 1 (43 R171). -/
def sbcDecimalValue (a op : Byte) (c : Bool) : Byte :=
  let al : Int := ((a.toNat % 16 : Nat) : Int) - ((op.toNat % 16 : Nat) : Int) + (c.toNat : Int) - 1
  let t := sbcDiff a op c
  let t := if t < 0 then t - 0x60 else t
  let t := if al < 0 then t - 0x06 else t
  BitVec.ofInt 8 t

/-- SBC: in decimal mode only the value changes; C and V stay those of the binary subtraction (43 R171). -/
def sbcResult (d : Bool) (a op : Byte) (c : Bool) : AluResult :=
  if d then { sbcBinary a op c with value := sbcDecimalValue a op c } else sbcBinary a op c

/-- C, Z and N of comparing a register with an operand (43 R175). -/
def Flags.withCompare (f : Flags) (r op : Byte) : Flags :=
  { f with c := decide (op.toNat ≤ r.toNat), z := decide (r = op), n := (r - op).getLsbD 7 }

/-- A shifted byte with the bit shifted out (44 R210 to R213). -/
structure ShiftResult where
  value : Byte
  carry : Bool
deriving DecidableEq, Repr

/-- ASL (44 R210). -/
def aslResult (v : Byte) : ShiftResult := { value := v <<< 1, carry := v.getLsbD 7 }

/-- LSR (44 R211). -/
def lsrResult (v : Byte) : ShiftResult := { value := v >>> 1, carry := v.getLsbD 0 }

/-- ROL (44 R212). -/
def rolResult (c : Bool) (v : Byte) : ShiftResult :=
  { value := (v <<< 1) ||| (if c then 0x01 else 0x00), carry := v.getLsbD 7 }

/-- ROR (44 R213). -/
def rorResult (c : Bool) (v : Byte) : ShiftResult :=
  { value := (v >>> 1) ||| (if c then 0x80 else 0x00), carry := v.getLsbD 0 }

/-- The byte with only bit `b` set (44 R214, R215). -/
def bitMask (b : Nat) : Byte := 0x01 <<< b

/-- RMB's result: bit `b` cleared (44 R214). -/
def resetBit (b : Nat) (v : Byte) : Byte := v &&& ~~~(bitMask b)

/-- SMB's result: bit `b` set (44 R215). -/
def setBit (b : Nat) (v : Byte) : Byte := v ||| bitMask b

end Sys2Proof.Machine
end

