-- ==== Sys2Proof/Machine/Ops.lean ====
section
/-! DEFINITION. The named operations over memory, registers, the stack and PC (20_memory.md R44 to R50, 40_pipeline.md
R83 to R89), entry through the BRK vector and return from it (60 R295, R296), and recording a fault (60 R292). -/

namespace Sys2Proof.Machine

/-! Memory. -/

/-- The byte at an address; an address that is not listed reads as `memInit`. -/
def Memory.read : Memory → Nat → Byte
  | [], _ => memInit
  | (k, b) :: rest, a => if k = a then b else Memory.read rest a

/-- The cells from address `a` on with `v` stored there: nothing is listed when `v` is what an unlisted address reads
as. -/
def Memory.put (a : Nat) (v : Byte) (rest : Memory) : Memory := if v = memInit then rest else (a, v) :: rest

/-- Store a byte, keeping the canonical form. -/
def Memory.write : Memory → Nat → Byte → Memory
  | [], a, v => Memory.put a v []
  | (k, b) :: rest, a, v =>
    if a < k then Memory.put a v ((k, b) :: rest)
    else if a = k then Memory.put a v rest
    else (k, b) :: Memory.write rest a v

/-- `MemRead(addr, 1)` (20 R44). -/
def memRead (s : State) (addr : Word) : Byte := s.mem.read addr.toNat

/-- `MemWrite(addr, 1, v)` (20 R44). -/
def memWrite (s : State) (addr : Word) (v : Byte) : State := { s with mem := s.mem.write addr.toNat v }

/-- `MemRead16(p)`: little-endian; the second address carries into the high byte and wraps modulo 65536 (20 R46). -/
def memRead16 (s : State) (p : Word) : Word := joinBytes (memRead s p) (memRead s (p + 1))

/-- `MemReadZP16(z)`: the second address wraps inside page 0 (20 R46). -/
def memReadZp16 (s : State) (z : Byte) : Word := joinBytes (memRead s (zext16 z)) (memRead s (zext16 (z + 1)))

/-! Registers and flags. -/

/-- Replace the flags. -/
def setFlags (f : Flags) (s : State) : State := { s with flags := f }

/-- `setZN(v)` (40 R87). -/
def setZN (v : Byte) (s : State) : State := { s with flags := s.flags.withZN v }

/-- `setA(v)` (40 R87). -/
def setA (v : Byte) (s : State) : State := { s with a := v, flags := s.flags.withZN v }

/-- `setX(v)` (40 R87). -/
def setX (v : Byte) (s : State) : State := { s with x := v, flags := s.flags.withZN v }

/-- `setY(v)` (40 R87). -/
def setY (v : Byte) (s : State) : State := { s with y := v, flags := s.flags.withZN v }

/-- A write of S derives no flag (10 R14, R16). -/
def setSp (v : Byte) (s : State) : State := { s with sp := v }

/-- A write of PC. -/
def setPc (w : Word) (s : State) : State := { s with pc := w }

/-- A diagnostic for the logging collaborator (46 R278). -/
def emit (d : Diagnostic) (s : State) : State := { s with log := s.log ++ [d] }

/-- The register and flag diagnostic of a state (46 R276, 60 R305). -/
def registerDiagnostic (s : State) : Diagnostic := .registers s.a s.x s.y s.sp s.pc s.flags

/-! The stack (20 R50). -/

/-- The address of the next free stack byte: 0x0100 + S (10 R14). -/
def stackAddr (sp : Byte) : Word := 0x0100 + zext16 sp

/-- `Push(v)` (20 R50). -/
def push (v : Byte) (s : State) : State := setSp (s.sp - 1) (memWrite s (stackAddr s.sp) v)

/-- The byte `Pull()` returns (20 R50). -/
def pulled (s : State) : Byte := memRead s (stackAddr (s.sp + 1))

/-- The state after `Pull()` (20 R50). -/
def afterPull (s : State) : State := setSp (s.sp + 1) s

/-- A 16-bit value is pushed high byte first (20 R50). -/
def pushWord (w : Word) (s : State) : State := push (loByte w) (push (hiByte w) s)

/-- A 16-bit value is pulled low byte first (20 R50). -/
def pulledWord (s : State) : Word := joinBytes (pulled s) (pulled (afterPull s))

/-- The state after a 16-bit value is pulled. -/
def afterPullWord (s : State) : State := afterPull (afterPull s)

/-! Fetching. -/

/-- The byte `FetchByte()` returns (40 R83). -/
def fetchedByte (s : State) : Byte := memRead s s.pc

/-- The state after `FetchByte()`: PC wraps modulo 65536 (40 R83). -/
def afterFetch (s : State) : State := setPc (s.pc + 1) s

/-- The instruction at PC: its opcode and the bytes after it, each address modulo 65536 (40 R83, R84; 41 R100). Bytes
past the instruction's last have no effect on the result (log 8). -/
def fetchInstr (s : State) : Instr :=
  decodeBytes s.params.debugOpcodes (fetchedByte s) (fetchedByte (afterFetch s)) (fetchedByte (afterFetch (afterFetch s)))

/-- Consume the opcode and operand bytes: PC is PC_next (40 R84, 41 R100). -/
def fetchOperands (i : Instr) (s : State) : State := setPc (s.pc + BitVec.ofNat 16 i.length) s

/-- The bound check of stage 1, which a 16-bit PC never meets (40 R82, 20 R57). -/
def pcBeyondMemory (pc : Word) : Bool := decide (memoryBound ≤ pc.toNat)

/-- The bound check's Finished: nothing else changes and no cycle is added (40 R82, R85). -/
def boundFinished (s : State) : State := { s with outcome := .finished }

/-! Ending a step. -/

/-- Cycle accounting and the outcome of a completed step: base + extra is added to totalCycles (40 R85, R86). -/
def complete (i : Instr) (extra : Nat) (out : StepOutcome) (s : State) : Answer :=
  .next { s with totalCycles := s.totalCycles + (i.baseCycles s.params + extra), outcome := out }

/-- A faulting step records its fault and changes nothing else (40 R89, R93; 60 R292). -/
def raiseFault (f : FaultRecord) (s : State) : Answer := .next { s with fault := some f }

/-- The page-cross penalty (41 R101). -/
def crossPenalty (crossed : Bool) : Nat := if crossed then 1 else 0

/-- The extra cycle of decimal ADC and SBC (43 R170, R171). -/
def decimalPenalty (d : Bool) : Nat := if d then 1 else 0

/-! Branches (45 R230, R231). -/

/-- The extra cycles of a branch: 1 when taken and 1 more when the target lies in another page than PC_next. -/
def branchPenalty (taken : Bool) (target pcNext : Word) : Nat :=
  if taken then (if hiByte target = hiByte pcNext then 1 else 2) else 0

/-- Load PC with the target when the condition holds; PC is PC_next before. -/
def branchTo (taken : Bool) (target : Word) (s : State) : State := if taken then setPc target s else s

/-- End a branch instruction from the state at PC_next. -/
def completeBranch (i : Instr) (taken : Bool) (target : Word) (s : State) : Answer :=
  complete i (branchPenalty taken target s.pc) .cont (branchTo taken target s)

/-! Entry through the BRK vector and return from it. -/

/-- The address of the BRK vector (20 R49). -/
def brkVector : Word := 0xFFFE

/-- Entry through the vector (45 R247, 60 R295): `ret` and the status byte are pushed, I is set, D is cleared, and PC
is the word at the vector, read after the pushes. -/
def enterBrk (ret : Word) (s : State) : State :=
  let s1 := push s.flags.pushedByte (pushWord ret s)
  let s2 := setFlags { s1.flags with i := true, d := false } s1
  setPc (memRead16 s2 brkVector) s2

/-- Return from it (45 R246, 60 R296): P, then the return address, without adding 1. -/
def returnFromBrk (s : State) : State :=
  let s1 := setFlags (Flags.unpack (pulled s)) (afterPull s)
  setPc (pulledWord s1) (afterPullWord s1)

end Sys2Proof.Machine
end

