-- ==== Sys2Proof/Machine/Operands.lean ====
section
/-! DEFINITION. The addressing-mode resolver (41_addressing.md): the effective address, the page-cross flag, operand
reads and writes, branch targets and jump targets. The operand bytes are fields of the instruction; PC is PC_next. -/

namespace Sys2Proof.Machine

/-- An effective address with the page-cross flag (41 R101, R102). -/
structure Resolved where
  addr : Word
  crossed : Bool
deriving DecidableEq, Repr

/-- An address that no index or no 16-bit index formed: the page-cross flag is false (41 R101). -/
def Resolved.plain (addr : Word) : Resolved := { addr := addr, crossed := false }

/-- A base address indexed over 16 bits, modulo 65536; the flag tells whether the high byte changed (41 R101, R110). -/
def Resolved.indexed (base : Word) (index : Byte) : Resolved :=
  { addr := base + zext16 index, crossed := decide (hiByte (base + zext16 index) ≠ hiByte base) }

/-- The resolver on the modes that give a data address (41 R106 to R111, R113 to R115). -/
def resolveEa (ea : Ea) (s : State) : Resolved :=
  match ea with
  | .zp b => .plain (zext16 b)
  | .zpX b => .plain (zext16 (b + s.x))
  | .zpY b => .plain (zext16 (b + s.y))
  | .abs w => .plain w
  | .absX w => .indexed w s.x
  | .absY w => .indexed w s.y
  | .zpInd b => .plain (memReadZp16 s b)
  | .zpXInd b => .plain (memReadZp16 s (b + s.x))
  | .zpIndY b => .indexed (memReadZp16 s b) s.y

/-- A byte read through an operand with the page-cross flag (41 R102). -/
structure ReadByte where
  value : Byte
  crossed : Bool
deriving DecidableEq, Repr

/-- Read an operand: the immediate byte, or the byte at the effective address (41 R102, R105). -/
def readSrc (op : Src) (s : State) : ReadByte :=
  match op with
  | .imm b => { value := b, crossed := false }
  | .mem ea => { value := memRead s (resolveEa ea s).addr, crossed := (resolveEa ea s).crossed }

/-- Whether an operand is the Immediate form, on which BIT leaves N and V (43 R178). -/
def srcIsImmediate (op : Src) : Bool :=
  match op with
  | .imm _ => true
  | .mem _ => false

/-- Read an operand that is also written: A, or the byte at the effective address (41 R102, R104). -/
def readRmw (op : Rmw) (s : State) : ReadByte :=
  match op with
  | .acc => { value := s.a, crossed := false }
  | .mem ea => { value := memRead s (resolveEa ea s).addr, crossed := (resolveEa ea s).crossed }

/-- Write the result of a read-modify-write instruction back: `setA` for the accumulator, one write of memory and
`setZN` otherwise (41 R102, 43 R181, 44 R210). -/
def writeRmw (op : Rmw) (v : Byte) (s : State) : State :=
  match op with
  | .acc => setA v s
  | .mem ea => setZN v (memWrite s (resolveEa ea s).addr v)

/-- The branch target: the signed displacement added to PC_next modulo 65536 (41 R112). -/
def relTarget (rel8 : Byte) (pcNext : Word) : Word := pcNext + sext16 rel8

/-- The jump target (41 R106, R116, R117). -/
def jumpTarget (op : JmpOperand) (s : State) : Word :=
  match op with
  | .abs w => w
  | .ind w => memRead16 s w
  | .indX w => memRead16 s (w + zext16 s.x)

/-- Whether the resolver implements a mode: it implements every one (41 R119). -/
def resolverImplements (mode : AddrMode) : Bool :=
  match mode with
  | .implied => true
  | .accumulator => true
  | .immediate => true
  | .absolute => true
  | .absoluteX => true
  | .absoluteY => true
  | .absoluteIndirect => true
  | .absoluteXIndirect => true
  | .zeroPage => true
  | .zeroPageX => true
  | .zeroPageY => true
  | .zeroPageIndirect => true
  | .zeroPageXIndirect => true
  | .zeroPageIndirectY => true
  | .programCounterRelative => true

/-- The first mode of an instruction that the resolver does not implement (41 R119, 60 R290). -/
def unsupportedMode (i : Instr) : Option AddrMode :=
  (i.mode :: i.mnemonic.secondaryMode.toList).find? (fun mode => !resolverImplements mode)

end Sys2Proof.Machine
end

