-- ==== Sys2Proof/Machine/Alu.lean ====
section
/-! DEFINITION. Arithmetic, logic, compare, bit test, increment and decrement (43_alu.md R170 to R186). -/

namespace Sys2Proof.Machine

/-- ADC (43 R170): C and V of the addition, the result to A through its setter, one extra cycle in decimal mode and one on
a page cross. -/
def execAdc (op : Src) (s : State) : Answer :=
  let s1 := fetchOperands (.adc op) s
  let r := readSrc op s1
  let res := adcResult s1.flags.d s1.a r.value s1.flags.c
  let s2 := setFlags (s1.flags.withCV res.carry res.overflow) s1
  complete (.adc op) (decimalPenalty s1.flags.d + crossPenalty r.crossed) .cont (setA res.value s2)

/-- SBC (43 R171): C and V of the subtraction, the result to A through its setter, one extra cycle in decimal mode and one on
a page cross. -/
def execSbc (op : Src) (s : State) : Answer :=
  let s1 := fetchOperands (.sbc op) s
  let r := readSrc op s1
  let res := sbcResult s1.flags.d s1.a r.value s1.flags.c
  let s2 := setFlags (s1.flags.withCV res.carry res.overflow) s1
  complete (.sbc op) (decimalPenalty s1.flags.d + crossPenalty r.crossed) .cont (setA res.value s2)

/-- AND (43 R172). -/
def execAnd (op : Src) (s : State) : Answer :=
  let s1 := fetchOperands (.and op) s
  let r := readSrc op s1
  complete (.and op) (crossPenalty r.crossed) .cont (setA (s1.a &&& r.value) s1)

/-- ORA (43 R173). -/
def execOra (op : Src) (s : State) : Answer :=
  let s1 := fetchOperands (.ora op) s
  let r := readSrc op s1
  complete (.ora op) (crossPenalty r.crossed) .cont (setA (s1.a ||| r.value) s1)

/-- EOR (43 R174). -/
def execEor (op : Src) (s : State) : Answer :=
  let s1 := fetchOperands (.eor op) s
  let r := readSrc op s1
  complete (.eor op) (crossPenalty r.crossed) .cont (setA (s1.a ^^^ r.value) s1)

/-- CMP (43 R175): C, Z and N of the comparison with A. -/
def execCmp (op : Src) (s : State) : Answer :=
  let s1 := fetchOperands (.cmp op) s
  let r := readSrc op s1
  complete (.cmp op) (crossPenalty r.crossed) .cont (setFlags (s1.flags.withCompare s1.a r.value) s1)

/-- CPX (43 R176): C, Z and N of the comparison with X. -/
def execCpx (op : Src) (s : State) : Answer :=
  let s1 := fetchOperands (.cpx op) s
  let r := readSrc op s1
  complete (.cpx op) (crossPenalty r.crossed) .cont (setFlags (s1.flags.withCompare s1.x r.value) s1)

/-- CPY (43 R177): C, Z and N of the comparison with Y. -/
def execCpy (op : Src) (s : State) : Answer :=
  let s1 := fetchOperands (.cpy op) s
  let r := readSrc op s1
  complete (.cpy op) (crossPenalty r.crossed) .cont (setFlags (s1.flags.withCompare s1.y r.value) s1)

/-- BIT (43 R178): Z from A and the operand; N and V from the operand, except in the Immediate form. -/
def execBit (op : Src) (s : State) : Answer :=
  let s1 := fetchOperands (.bit op) s
  let r := readSrc op s1
  let f := s1.flags.withZ (decide (s1.a &&& r.value = 0))
  let f := if srcIsImmediate op then f else f.withNV (r.value.getLsbD 7) (r.value.getLsbD 6)
  complete (.bit op) (crossPenalty r.crossed) .cont (setFlags f s1)

/-- TSB (43 R179): Z from A and the byte, then the byte is written back. -/
def execTsb (ea : Ea) (s : State) : Answer :=
  let s1 := fetchOperands (.tsb ea) s
  let addr := (resolveEa ea s1).addr
  let m := memRead s1 addr
  let s2 := setFlags (s1.flags.withZ (decide (s1.a &&& m = 0))) s1
  complete (.tsb ea) 0 .cont (memWrite s2 addr (m ||| s1.a))

/-- TRB (43 R180): Z from A and the byte, then the byte is written back. -/
def execTrb (ea : Ea) (s : State) : Answer :=
  let s1 := fetchOperands (.trb ea) s
  let addr := (resolveEa ea s1).addr
  let m := memRead s1 addr
  let s2 := setFlags (s1.flags.withZ (decide (s1.a &&& m = 0))) s1
  complete (.trb ea) 0 .cont (memWrite s2 addr (m &&& ~~~s1.a))

/-- INC (43 R181): modulo 256; no page-cross penalty. -/
def execInc (op : Rmw) (s : State) : Answer :=
  let s1 := fetchOperands (.inc op) s
  complete (.inc op) 0 .cont (writeRmw op ((readRmw op s1).value + 1) s1)

/-- DEC (43 R182): modulo 256; no page-cross penalty. -/
def execDec (op : Rmw) (s : State) : Answer :=
  let s1 := fetchOperands (.dec op) s
  complete (.dec op) 0 .cont (writeRmw op ((readRmw op s1).value - 1) s1)

/-- INX (43 R183). -/
def execInx (s : State) : Answer :=
  let s1 := fetchOperands .inx s
  complete .inx 0 .cont (setX (s1.x + 1) s1)

/-- INY (43 R184). -/
def execIny (s : State) : Answer :=
  let s1 := fetchOperands .iny s
  complete .iny 0 .cont (setY (s1.y + 1) s1)

/-- DEX (43 R185). -/
def execDex (s : State) : Answer :=
  let s1 := fetchOperands .dex s
  complete .dex 0 .cont (setX (s1.x - 1) s1)

/-- DEY (43 R186). -/
def execDey (s : State) : Answer :=
  let s1 := fetchOperands .dey s
  complete .dey 0 .cont (setY (s1.y - 1) s1)

end Sys2Proof.Machine
end

