-- ==== Sys2Proof/Machine/BitOps.lean ====
section
/-! DEFINITION. Zero-page bit operations (44_shift_bitops.md R214, R215) and bit branches (45_control.md R231, R241, R242). -/

namespace Sys2Proof.Machine

/-- Read the byte at `zp8`, change it by `f` and write it back (44 R214, R215). -/
def modifyZeroPage (f : Byte → Byte) (zp8 : Byte) (s : State) : State :=
  memWrite s (zext16 zp8) (f (memRead s (zext16 zp8)))

/-- Branch from the state at PC_next when bit `b` of the byte at `zp8` has the value `want` (41 R118, 45 R241, R242). -/
def branchOnBit (i : Instr) (b : Nat) (want : Bool) (zp8 rel8 : Byte) (s : State) : Answer :=
  completeBranch i ((memRead s (zext16 zp8)).getLsbD b == want) (relTarget rel8 s.pc) s

/-- RMB0 (44 R214): no flag changes. -/
def execRmb0 (zp8 : Byte) (s : State) : Answer :=
  let s1 := fetchOperands (.rmb0 zp8) s
  complete (.rmb0 zp8) 0 .cont (modifyZeroPage (resetBit 0) zp8 s1)

/-- RMB1 (44 R214): no flag changes. -/
def execRmb1 (zp8 : Byte) (s : State) : Answer :=
  let s1 := fetchOperands (.rmb1 zp8) s
  complete (.rmb1 zp8) 0 .cont (modifyZeroPage (resetBit 1) zp8 s1)

/-- RMB2 (44 R214): no flag changes. -/
def execRmb2 (zp8 : Byte) (s : State) : Answer :=
  let s1 := fetchOperands (.rmb2 zp8) s
  complete (.rmb2 zp8) 0 .cont (modifyZeroPage (resetBit 2) zp8 s1)

/-- RMB3 (44 R214): no flag changes. -/
def execRmb3 (zp8 : Byte) (s : State) : Answer :=
  let s1 := fetchOperands (.rmb3 zp8) s
  complete (.rmb3 zp8) 0 .cont (modifyZeroPage (resetBit 3) zp8 s1)

/-- RMB4 (44 R214): no flag changes. -/
def execRmb4 (zp8 : Byte) (s : State) : Answer :=
  let s1 := fetchOperands (.rmb4 zp8) s
  complete (.rmb4 zp8) 0 .cont (modifyZeroPage (resetBit 4) zp8 s1)

/-- RMB5 (44 R214): no flag changes. -/
def execRmb5 (zp8 : Byte) (s : State) : Answer :=
  let s1 := fetchOperands (.rmb5 zp8) s
  complete (.rmb5 zp8) 0 .cont (modifyZeroPage (resetBit 5) zp8 s1)

/-- RMB6 (44 R214): no flag changes. -/
def execRmb6 (zp8 : Byte) (s : State) : Answer :=
  let s1 := fetchOperands (.rmb6 zp8) s
  complete (.rmb6 zp8) 0 .cont (modifyZeroPage (resetBit 6) zp8 s1)

/-- RMB7 (44 R214): no flag changes. -/
def execRmb7 (zp8 : Byte) (s : State) : Answer :=
  let s1 := fetchOperands (.rmb7 zp8) s
  complete (.rmb7 zp8) 0 .cont (modifyZeroPage (resetBit 7) zp8 s1)

/-- SMB0 (44 R215): no flag changes. -/
def execSmb0 (zp8 : Byte) (s : State) : Answer :=
  let s1 := fetchOperands (.smb0 zp8) s
  complete (.smb0 zp8) 0 .cont (modifyZeroPage (setBit 0) zp8 s1)

/-- SMB1 (44 R215): no flag changes. -/
def execSmb1 (zp8 : Byte) (s : State) : Answer :=
  let s1 := fetchOperands (.smb1 zp8) s
  complete (.smb1 zp8) 0 .cont (modifyZeroPage (setBit 1) zp8 s1)

/-- SMB2 (44 R215): no flag changes. -/
def execSmb2 (zp8 : Byte) (s : State) : Answer :=
  let s1 := fetchOperands (.smb2 zp8) s
  complete (.smb2 zp8) 0 .cont (modifyZeroPage (setBit 2) zp8 s1)

/-- SMB3 (44 R215): no flag changes. -/
def execSmb3 (zp8 : Byte) (s : State) : Answer :=
  let s1 := fetchOperands (.smb3 zp8) s
  complete (.smb3 zp8) 0 .cont (modifyZeroPage (setBit 3) zp8 s1)

/-- SMB4 (44 R215): no flag changes. -/
def execSmb4 (zp8 : Byte) (s : State) : Answer :=
  let s1 := fetchOperands (.smb4 zp8) s
  complete (.smb4 zp8) 0 .cont (modifyZeroPage (setBit 4) zp8 s1)

/-- SMB5 (44 R215): no flag changes. -/
def execSmb5 (zp8 : Byte) (s : State) : Answer :=
  let s1 := fetchOperands (.smb5 zp8) s
  complete (.smb5 zp8) 0 .cont (modifyZeroPage (setBit 5) zp8 s1)

/-- SMB6 (44 R215): no flag changes. -/
def execSmb6 (zp8 : Byte) (s : State) : Answer :=
  let s1 := fetchOperands (.smb6 zp8) s
  complete (.smb6 zp8) 0 .cont (modifyZeroPage (setBit 6) zp8 s1)

/-- SMB7 (44 R215): no flag changes. -/
def execSmb7 (zp8 : Byte) (s : State) : Answer :=
  let s1 := fetchOperands (.smb7 zp8) s
  complete (.smb7 zp8) 0 .cont (modifyZeroPage (setBit 7) zp8 s1)

/-- BBR0 (45 R241). -/
def execBbr0 (zp8 rel8 : Byte) (s : State) : Answer :=
  let s1 := fetchOperands (.bbr0 zp8 rel8) s
  branchOnBit (.bbr0 zp8 rel8) 0 false zp8 rel8 s1

/-- BBR1 (45 R241). -/
def execBbr1 (zp8 rel8 : Byte) (s : State) : Answer :=
  let s1 := fetchOperands (.bbr1 zp8 rel8) s
  branchOnBit (.bbr1 zp8 rel8) 1 false zp8 rel8 s1

/-- BBR2 (45 R241). -/
def execBbr2 (zp8 rel8 : Byte) (s : State) : Answer :=
  let s1 := fetchOperands (.bbr2 zp8 rel8) s
  branchOnBit (.bbr2 zp8 rel8) 2 false zp8 rel8 s1

/-- BBR3 (45 R241). -/
def execBbr3 (zp8 rel8 : Byte) (s : State) : Answer :=
  let s1 := fetchOperands (.bbr3 zp8 rel8) s
  branchOnBit (.bbr3 zp8 rel8) 3 false zp8 rel8 s1

/-- BBR4 (45 R241). -/
def execBbr4 (zp8 rel8 : Byte) (s : State) : Answer :=
  let s1 := fetchOperands (.bbr4 zp8 rel8) s
  branchOnBit (.bbr4 zp8 rel8) 4 false zp8 rel8 s1

/-- BBR5 (45 R241). -/
def execBbr5 (zp8 rel8 : Byte) (s : State) : Answer :=
  let s1 := fetchOperands (.bbr5 zp8 rel8) s
  branchOnBit (.bbr5 zp8 rel8) 5 false zp8 rel8 s1

/-- BBR6 (45 R241). -/
def execBbr6 (zp8 rel8 : Byte) (s : State) : Answer :=
  let s1 := fetchOperands (.bbr6 zp8 rel8) s
  branchOnBit (.bbr6 zp8 rel8) 6 false zp8 rel8 s1

/-- BBR7 (45 R241). -/
def execBbr7 (zp8 rel8 : Byte) (s : State) : Answer :=
  let s1 := fetchOperands (.bbr7 zp8 rel8) s
  branchOnBit (.bbr7 zp8 rel8) 7 false zp8 rel8 s1

/-- BBS0 (45 R242). -/
def execBbs0 (zp8 rel8 : Byte) (s : State) : Answer :=
  let s1 := fetchOperands (.bbs0 zp8 rel8) s
  branchOnBit (.bbs0 zp8 rel8) 0 true zp8 rel8 s1

/-- BBS1 (45 R242). -/
def execBbs1 (zp8 rel8 : Byte) (s : State) : Answer :=
  let s1 := fetchOperands (.bbs1 zp8 rel8) s
  branchOnBit (.bbs1 zp8 rel8) 1 true zp8 rel8 s1

/-- BBS2 (45 R242). -/
def execBbs2 (zp8 rel8 : Byte) (s : State) : Answer :=
  let s1 := fetchOperands (.bbs2 zp8 rel8) s
  branchOnBit (.bbs2 zp8 rel8) 2 true zp8 rel8 s1

/-- BBS3 (45 R242). -/
def execBbs3 (zp8 rel8 : Byte) (s : State) : Answer :=
  let s1 := fetchOperands (.bbs3 zp8 rel8) s
  branchOnBit (.bbs3 zp8 rel8) 3 true zp8 rel8 s1

/-- BBS4 (45 R242). -/
def execBbs4 (zp8 rel8 : Byte) (s : State) : Answer :=
  let s1 := fetchOperands (.bbs4 zp8 rel8) s
  branchOnBit (.bbs4 zp8 rel8) 4 true zp8 rel8 s1

/-- BBS5 (45 R242). -/
def execBbs5 (zp8 rel8 : Byte) (s : State) : Answer :=
  let s1 := fetchOperands (.bbs5 zp8 rel8) s
  branchOnBit (.bbs5 zp8 rel8) 5 true zp8 rel8 s1

/-- BBS6 (45 R242). -/
def execBbs6 (zp8 rel8 : Byte) (s : State) : Answer :=
  let s1 := fetchOperands (.bbs6 zp8 rel8) s
  branchOnBit (.bbs6 zp8 rel8) 6 true zp8 rel8 s1

/-- BBS7 (45 R242). -/
def execBbs7 (zp8 rel8 : Byte) (s : State) : Answer :=
  let s1 := fetchOperands (.bbs7 zp8 rel8) s
  branchOnBit (.bbs7 zp8 rel8) 7 true zp8 rel8 s1

end Sys2Proof.Machine
end

