-- ==== Sys2Proof/Machine/Control.lean ====
section
/-! DEFINITION. Branches, jumps, calls, returns and BRK (45_control.md R230 to R247). -/

namespace Sys2Proof.Machine

/-- BCC (45 R232): taken when C = 0. -/
def execBcc (rel8 : Byte) (s : State) : Answer :=
  let s1 := fetchOperands (.bcc rel8) s
  completeBranch (.bcc rel8) (!s1.flags.c) (relTarget rel8 s1.pc) s1

/-- BCS (45 R233): taken when C = 1. -/
def execBcs (rel8 : Byte) (s : State) : Answer :=
  let s1 := fetchOperands (.bcs rel8) s
  completeBranch (.bcs rel8) s1.flags.c (relTarget rel8 s1.pc) s1

/-- BEQ (45 R234): taken when Z = 1. -/
def execBeq (rel8 : Byte) (s : State) : Answer :=
  let s1 := fetchOperands (.beq rel8) s
  completeBranch (.beq rel8) s1.flags.z (relTarget rel8 s1.pc) s1

/-- BNE (45 R235): taken when Z = 0. -/
def execBne (rel8 : Byte) (s : State) : Answer :=
  let s1 := fetchOperands (.bne rel8) s
  completeBranch (.bne rel8) (!s1.flags.z) (relTarget rel8 s1.pc) s1

/-- BMI (45 R236): taken when N = 1. -/
def execBmi (rel8 : Byte) (s : State) : Answer :=
  let s1 := fetchOperands (.bmi rel8) s
  completeBranch (.bmi rel8) s1.flags.n (relTarget rel8 s1.pc) s1

/-- BPL (45 R237): taken when N = 0. -/
def execBpl (rel8 : Byte) (s : State) : Answer :=
  let s1 := fetchOperands (.bpl rel8) s
  completeBranch (.bpl rel8) (!s1.flags.n) (relTarget rel8 s1.pc) s1

/-- BVC (45 R238): taken when V = 0. -/
def execBvc (rel8 : Byte) (s : State) : Answer :=
  let s1 := fetchOperands (.bvc rel8) s
  completeBranch (.bvc rel8) (!s1.flags.v) (relTarget rel8 s1.pc) s1

/-- BVS (45 R239): taken when V = 1. -/
def execBvs (rel8 : Byte) (s : State) : Answer :=
  let s1 := fetchOperands (.bvs rel8) s
  completeBranch (.bvs rel8) s1.flags.v (relTarget rel8 s1.pc) s1

/-- BRA (45 R240): taken always. -/
def execBra (rel8 : Byte) (s : State) : Answer :=
  let s1 := fetchOperands (.bra rel8) s
  completeBranch (.bra rel8) true (relTarget rel8 s1.pc) s1

/-- JMP (45 R243). -/
def execJmp (op : JmpOperand) (s : State) : Answer :=
  let s1 := fetchOperands (.jmp op) s
  complete (.jmp op) 0 .cont (setPc (jumpTarget op s1) s1)

/-- JSR (45 R244): the address of its last byte is pushed. -/
def execJsr (addr : Word) (s : State) : Answer :=
  let s1 := fetchOperands (.jsr addr) s
  complete (.jsr addr) 0 .cont (setPc addr (pushWord (s1.pc - 1) s1))

/-- RTS (45 R245): the pulled address plus 1. -/
def execRts (s : State) : Answer :=
  let s1 := fetchOperands .rts s
  complete .rts 0 .cont (setPc (pulledWord s1 + 1) (afterPullWord s1))

/-- RTI (45 R246, 60 R296). -/
def execRti (s : State) : Answer :=
  let s1 := fetchOperands .rti s
  complete .rti 0 .cont (returnFromBrk s1)

/-- BRK (45 R247): `terminal` ends the run with Finished; `vectored` enters through the vector with the return address
PC_start + 2. -/
def execBrk (s : State) : Answer :=
  let s1 := fetchOperands .brk s
  match s1.params.brkMode with
  | .terminal => complete .brk 0 .finished s1
  | .vectored => complete .brk 0 .cont (enterBrk (s.pc + 2) s1)

end Sys2Proof.Machine
end

