-- ==== Sys2Proof/Machine/FlagOps.lean ====
section
/-! DEFINITION. Flag set and clear (46_flags_misc.md R260 to R266). -/

namespace Sys2Proof.Machine

/-- CLC (46 R260): C only. -/
def execClc (s : State) : Answer :=
  let s1 := fetchOperands .clc s
  complete .clc 0 .cont (setFlags { s1.flags with c := false } s1)

/-- SEC (46 R261): C only. -/
def execSec (s : State) : Answer :=
  let s1 := fetchOperands .sec s
  complete .sec 0 .cont (setFlags { s1.flags with c := true } s1)

/-- CLD (46 R262): D only. -/
def execCld (s : State) : Answer :=
  let s1 := fetchOperands .cld s
  complete .cld 0 .cont (setFlags { s1.flags with d := false } s1)

/-- SED (46 R263): D only. -/
def execSed (s : State) : Answer :=
  let s1 := fetchOperands .sed s
  complete .sed 0 .cont (setFlags { s1.flags with d := true } s1)

/-- CLI (46 R264): I only. -/
def execCli (s : State) : Answer :=
  let s1 := fetchOperands .cli s
  complete .cli 0 .cont (setFlags { s1.flags with i := false } s1)

/-- SEI (46 R265): I only. -/
def execSei (s : State) : Answer :=
  let s1 := fetchOperands .sei s
  complete .sei 0 .cont (setFlags { s1.flags with i := true } s1)

/-- CLV (46 R266): V only. -/
def execClv (s : State) : Answer :=
  let s1 := fetchOperands .clv s
  complete .clv 0 .cont (setFlags { s1.flags with v := false } s1)

end Sys2Proof.Machine
end

