-- ==== Sys2Proof/Machine/LoadStore.lean ====
section
/-! DEFINITION. Loads and stores (42_load_store_transfer.md R130 to R136). -/

namespace Sys2Proof.Machine

/-- LDA (42 R130): the operand goes to A through its setter, with the page-cross penalty. -/
def execLda (op : Src) (s : State) : Answer :=
  let s1 := fetchOperands (.lda op) s
  let r := readSrc op s1
  complete (.lda op) (crossPenalty r.crossed) .cont (setA r.value s1)

/-- LDX (42 R131): the operand goes to X through its setter, with the page-cross penalty. -/
def execLdx (op : Src) (s : State) : Answer :=
  let s1 := fetchOperands (.ldx op) s
  let r := readSrc op s1
  complete (.ldx op) (crossPenalty r.crossed) .cont (setX r.value s1)

/-- LDY (42 R132): the operand goes to Y through its setter, with the page-cross penalty. -/
def execLdy (op : Src) (s : State) : Answer :=
  let s1 := fetchOperands (.ldy op) s
  let r := readSrc op s1
  complete (.ldy op) (crossPenalty r.crossed) .cont (setY r.value s1)

/-- STA (42 R133): A is stored; no flag changes and no page-cross penalty applies. -/
def execSta (ea : Ea) (s : State) : Answer :=
  let s1 := fetchOperands (.sta ea) s
  complete (.sta ea) 0 .cont (memWrite s1 (resolveEa ea s1).addr s1.a)

/-- STX (42 R134): X is stored; no flag changes and no page-cross penalty applies. -/
def execStx (ea : Ea) (s : State) : Answer :=
  let s1 := fetchOperands (.stx ea) s
  complete (.stx ea) 0 .cont (memWrite s1 (resolveEa ea s1).addr s1.x)

/-- STY (42 R135): Y is stored; no flag changes and no page-cross penalty applies. -/
def execSty (ea : Ea) (s : State) : Answer :=
  let s1 := fetchOperands (.sty ea) s
  complete (.sty ea) 0 .cont (memWrite s1 (resolveEa ea s1).addr s1.y)

/-- STZ (42 R136): 0x00 is stored; no flag changes and no page-cross penalty applies. -/
def execStz (ea : Ea) (s : State) : Answer :=
  let s1 := fetchOperands (.stz ea) s
  complete (.stz ea) 0 .cont (memWrite s1 (resolveEa ea s1).addr 0x00)

end Sys2Proof.Machine
end

