-- ==== Sys2Proof/Machine/Misc.lean ====
section
/-! DEFINITION. No-operation, halts, undefined values and debug opcodes (46_flags_misc.md R267 to R278). -/

namespace Sys2Proof.Machine

/-- NOP (46 R267). -/
def execNop (s : State) : Answer :=
  complete .nop 0 .cont (fetchOperands .nop s)

/-- WAI (46 R273): a halt; the run ends with Finished. -/
def execWai (s : State) : Answer :=
  complete .wai 0 .finished (fetchOperands .wai s)

/-- STP (46 R274): a halt; the run ends with Finished. -/
def execStp (s : State) : Answer :=
  complete .stp 0 .finished (fetchOperands .stp s)

/-- An undefined opcode value (30 R65): under `fault` the step raises UnsupportedInstruction and keeps the state
(60 R290, R292); under `wdc_nop` it is a no-operation of its form's length and cost (46 R272). -/
def execUndefined (form : UndefForm) (s : State) : Answer :=
  match s.params.undefPolicy with
  | .fault => raiseFault (.unsupportedInstruction form.opcode s.pc) s
  | .wdcNop => complete (.undefined form) 0 .cont (fetchOperands (.undefined form) s)

/-- OP_BREAKPOINT (46 R275): Pause, with PC past the opcode. -/
def execOpBreakpoint (s : State) : Answer :=
  complete .opBreakpoint 0 .pause (fetchOperands .opBreakpoint s)

/-- OP_REGDUMP (46 R276): a register and flag diagnostic to the logging collaborator. -/
def execOpRegdump (s : State) : Answer :=
  let s1 := fetchOperands .opRegdump s
  complete .opRegdump 0 .cont (emit (registerDiagnostic s1) s1)

/-- OP_MEMDUMP (46 R277): a memory diagnostic to the logging collaborator. -/
def execOpMemdump (s : State) : Answer :=
  let s1 := fetchOperands .opMemdump s
  complete .opMemdump 0 .cont (emit .memory s1)

end Sys2Proof.Machine
end

