-- ==== Sys2Proof/Machine/Shift.lean ====
section
/-! DEFINITION. Shifts and rotates (44_shift_bitops.md R210 to R213). -/

namespace Sys2Proof.Machine

/-- ASL (44 R210): C is the bit shifted out, Z and N come from the result. -/
def execAsl (op : Rmw) (s : State) : Answer :=
  let s1 := fetchOperands (.asl op) s
  let r := readRmw op s1
  let res := aslResult r.value
  let s2 := setFlags (s1.flags.withC res.carry) s1
  complete (.asl op) (crossPenalty r.crossed) .cont (writeRmw op res.value s2)

/-- LSR (44 R211): C is the bit shifted out, Z and N come from the result. -/
def execLsr (op : Rmw) (s : State) : Answer :=
  let s1 := fetchOperands (.lsr op) s
  let r := readRmw op s1
  let res := lsrResult r.value
  let s2 := setFlags (s1.flags.withC res.carry) s1
  complete (.lsr op) (crossPenalty r.crossed) .cont (writeRmw op res.value s2)

/-- ROL (44 R212): C is the bit shifted out, Z and N come from the result. -/
def execRol (op : Rmw) (s : State) : Answer :=
  let s1 := fetchOperands (.rol op) s
  let r := readRmw op s1
  let res := rolResult s1.flags.c r.value
  let s2 := setFlags (s1.flags.withC res.carry) s1
  complete (.rol op) (crossPenalty r.crossed) .cont (writeRmw op res.value s2)

/-- ROR (44 R213): C is the bit shifted out, Z and N come from the result. -/
def execRor (op : Rmw) (s : State) : Answer :=
  let s1 := fetchOperands (.ror op) s
  let r := readRmw op s1
  let res := rorResult s1.flags.c r.value
  let s2 := setFlags (s1.flags.withC res.carry) s1
  complete (.ror op) (crossPenalty r.crossed) .cont (writeRmw op res.value s2)

end Sys2Proof.Machine
end

