-- ==== Sys2Proof/Machine/Stack.lean ====
section
/-! DEFINITION. Pushes and pulls (42_load_store_transfer.md R143 to R150). -/

namespace Sys2Proof.Machine

/-- PHA (42 R143). -/
def execPha (s : State) : Answer :=
  let s1 := fetchOperands .pha s
  complete .pha 0 .cont (push s1.a s1)

/-- PHX (42 R144). -/
def execPhx (s : State) : Answer :=
  let s1 := fetchOperands .phx s
  complete .phx 0 .cont (push s1.x s1)

/-- PHY (42 R145). -/
def execPhy (s : State) : Answer :=
  let s1 := fetchOperands .phy s
  complete .phy 0 .cont (push s1.y s1)

/-- PHP (42 R146): P is pushed with bits 4 and 5 set; the stored B does not change. -/
def execPhp (s : State) : Answer :=
  let s1 := fetchOperands .php s
  complete .php 0 .cont (push s1.flags.pushedByte s1)

/-- PLA (42 R147). -/
def execPla (s : State) : Answer :=
  let s1 := fetchOperands .pla s
  complete .pla 0 .cont (setA (pulled s1) (afterPull s1))

/-- PLX (42 R148). -/
def execPlx (s : State) : Answer :=
  let s1 := fetchOperands .plx s
  complete .plx 0 .cont (setX (pulled s1) (afterPull s1))

/-- PLY (42 R149). -/
def execPly (s : State) : Answer :=
  let s1 := fetchOperands .ply s
  complete .ply 0 .cont (setY (pulled s1) (afterPull s1))

/-- PLP (42 R150): all seven flags come from the pulled byte. -/
def execPlp (s : State) : Answer :=
  let s1 := fetchOperands .plp s
  complete .plp 0 .cont (setFlags (Flags.unpack (pulled s1)) (afterPull s1))

end Sys2Proof.Machine
end

