-- ==== Sys2Proof/Machine/Transfer.lean ====
section
/-! DEFINITION. Register transfers (42_load_store_transfer.md R137 to R142). -/

namespace Sys2Proof.Machine

/-- TAX (42 R137). -/
def execTax (s : State) : Answer :=
  let s1 := fetchOperands .tax s
  complete .tax 0 .cont (setX s1.a s1)

/-- TAY (42 R138). -/
def execTay (s : State) : Answer :=
  let s1 := fetchOperands .tay s
  complete .tay 0 .cont (setY s1.a s1)

/-- TXA (42 R139). -/
def execTxa (s : State) : Answer :=
  let s1 := fetchOperands .txa s
  complete .txa 0 .cont (setA s1.x s1)

/-- TYA (42 R140). -/
def execTya (s : State) : Answer :=
  let s1 := fetchOperands .tya s
  complete .tya 0 .cont (setA s1.y s1)

/-- TSX (42 R141). -/
def execTsx (s : State) : Answer :=
  let s1 := fetchOperands .tsx s
  complete .tsx 0 .cont (setX s1.sp s1)

/-- TXS (42 R142); no flag changes. -/
def execTxs (s : State) : Answer :=
  let s1 := fetchOperands .txs s
  complete .txs 0 .cont (setSp s1.x s1)

end Sys2Proof.Machine
end

