-- ==== Sys2Proof/Machine/Dispatch.lean ====
section
/-! DEFINITION. Dispatch: one arm per instruction, one meaning per arm (40_pipeline.md R86). -/

namespace Sys2Proof.Machine

/-- Run one instruction from the state at its opcode byte. -/
def exec (i : Instr) (s : State) : Host.Outcome State Fault Refusal :=
  match i with
  | .lda op => Sys2Proof.Machine.execLda op s
  | .ldx op => Sys2Proof.Machine.execLdx op s
  | .ldy op => Sys2Proof.Machine.execLdy op s
  | .sta ea => Sys2Proof.Machine.execSta ea s
  | .stx ea => Sys2Proof.Machine.execStx ea s
  | .sty ea => Sys2Proof.Machine.execSty ea s
  | .stz ea => Sys2Proof.Machine.execStz ea s
  | .tax => Sys2Proof.Machine.execTax s
  | .tay => Sys2Proof.Machine.execTay s
  | .txa => Sys2Proof.Machine.execTxa s
  | .tya => Sys2Proof.Machine.execTya s
  | .tsx => Sys2Proof.Machine.execTsx s
  | .txs => Sys2Proof.Machine.execTxs s
  | .pha => Sys2Proof.Machine.execPha s
  | .phx => Sys2Proof.Machine.execPhx s
  | .phy => Sys2Proof.Machine.execPhy s
  | .php => Sys2Proof.Machine.execPhp s
  | .pla => Sys2Proof.Machine.execPla s
  | .plx => Sys2Proof.Machine.execPlx s
  | .ply => Sys2Proof.Machine.execPly s
  | .plp => Sys2Proof.Machine.execPlp s
  | .adc op => Sys2Proof.Machine.execAdc op s
  | .sbc op => Sys2Proof.Machine.execSbc op s
  | .and op => Sys2Proof.Machine.execAnd op s
  | .ora op => Sys2Proof.Machine.execOra op s
  | .eor op => Sys2Proof.Machine.execEor op s
  | .cmp op => Sys2Proof.Machine.execCmp op s
  | .cpx op => Sys2Proof.Machine.execCpx op s
  | .cpy op => Sys2Proof.Machine.execCpy op s
  | .bit op => Sys2Proof.Machine.execBit op s
  | .tsb ea => Sys2Proof.Machine.execTsb ea s
  | .trb ea => Sys2Proof.Machine.execTrb ea s
  | .inc op => Sys2Proof.Machine.execInc op s
  | .dec op => Sys2Proof.Machine.execDec op s
  | .inx => Sys2Proof.Machine.execInx s
  | .iny => Sys2Proof.Machine.execIny s
  | .dex => Sys2Proof.Machine.execDex s
  | .dey => Sys2Proof.Machine.execDey s
  | .asl op => Sys2Proof.Machine.execAsl op s
  | .lsr op => Sys2Proof.Machine.execLsr op s
  | .rol op => Sys2Proof.Machine.execRol op s
  | .ror op => Sys2Proof.Machine.execRor op s
  | .rmb0 zp8 => Sys2Proof.Machine.execRmb0 zp8 s
  | .rmb1 zp8 => Sys2Proof.Machine.execRmb1 zp8 s
  | .rmb2 zp8 => Sys2Proof.Machine.execRmb2 zp8 s
  | .rmb3 zp8 => Sys2Proof.Machine.execRmb3 zp8 s
  | .rmb4 zp8 => Sys2Proof.Machine.execRmb4 zp8 s
  | .rmb5 zp8 => Sys2Proof.Machine.execRmb5 zp8 s
  | .rmb6 zp8 => Sys2Proof.Machine.execRmb6 zp8 s
  | .rmb7 zp8 => Sys2Proof.Machine.execRmb7 zp8 s
  | .smb0 zp8 => Sys2Proof.Machine.execSmb0 zp8 s
  | .smb1 zp8 => Sys2Proof.Machine.execSmb1 zp8 s
  | .smb2 zp8 => Sys2Proof.Machine.execSmb2 zp8 s
  | .smb3 zp8 => Sys2Proof.Machine.execSmb3 zp8 s
  | .smb4 zp8 => Sys2Proof.Machine.execSmb4 zp8 s
  | .smb5 zp8 => Sys2Proof.Machine.execSmb5 zp8 s
  | .smb6 zp8 => Sys2Proof.Machine.execSmb6 zp8 s
  | .smb7 zp8 => Sys2Proof.Machine.execSmb7 zp8 s
  | .bcc rel8 => Sys2Proof.Machine.execBcc rel8 s
  | .bcs rel8 => Sys2Proof.Machine.execBcs rel8 s
  | .beq rel8 => Sys2Proof.Machine.execBeq rel8 s
  | .bne rel8 => Sys2Proof.Machine.execBne rel8 s
  | .bmi rel8 => Sys2Proof.Machine.execBmi rel8 s
  | .bpl rel8 => Sys2Proof.Machine.execBpl rel8 s
  | .bvc rel8 => Sys2Proof.Machine.execBvc rel8 s
  | .bvs rel8 => Sys2Proof.Machine.execBvs rel8 s
  | .bra rel8 => Sys2Proof.Machine.execBra rel8 s
  | .bbr0 zp8 rel8 => Sys2Proof.Machine.execBbr0 zp8 rel8 s
  | .bbr1 zp8 rel8 => Sys2Proof.Machine.execBbr1 zp8 rel8 s
  | .bbr2 zp8 rel8 => Sys2Proof.Machine.execBbr2 zp8 rel8 s
  | .bbr3 zp8 rel8 => Sys2Proof.Machine.execBbr3 zp8 rel8 s
  | .bbr4 zp8 rel8 => Sys2Proof.Machine.execBbr4 zp8 rel8 s
  | .bbr5 zp8 rel8 => Sys2Proof.Machine.execBbr5 zp8 rel8 s
  | .bbr6 zp8 rel8 => Sys2Proof.Machine.execBbr6 zp8 rel8 s
  | .bbr7 zp8 rel8 => Sys2Proof.Machine.execBbr7 zp8 rel8 s
  | .bbs0 zp8 rel8 => Sys2Proof.Machine.execBbs0 zp8 rel8 s
  | .bbs1 zp8 rel8 => Sys2Proof.Machine.execBbs1 zp8 rel8 s
  | .bbs2 zp8 rel8 => Sys2Proof.Machine.execBbs2 zp8 rel8 s
  | .bbs3 zp8 rel8 => Sys2Proof.Machine.execBbs3 zp8 rel8 s
  | .bbs4 zp8 rel8 => Sys2Proof.Machine.execBbs4 zp8 rel8 s
  | .bbs5 zp8 rel8 => Sys2Proof.Machine.execBbs5 zp8 rel8 s
  | .bbs6 zp8 rel8 => Sys2Proof.Machine.execBbs6 zp8 rel8 s
  | .bbs7 zp8 rel8 => Sys2Proof.Machine.execBbs7 zp8 rel8 s
  | .jmp op => Sys2Proof.Machine.execJmp op s
  | .jsr addr => Sys2Proof.Machine.execJsr addr s
  | .rts => Sys2Proof.Machine.execRts s
  | .rti => Sys2Proof.Machine.execRti s
  | .brk => Sys2Proof.Machine.execBrk s
  | .clc => Sys2Proof.Machine.execClc s
  | .sec => Sys2Proof.Machine.execSec s
  | .cld => Sys2Proof.Machine.execCld s
  | .sed => Sys2Proof.Machine.execSed s
  | .cli => Sys2Proof.Machine.execCli s
  | .sei => Sys2Proof.Machine.execSei s
  | .clv => Sys2Proof.Machine.execClv s
  | .nop => Sys2Proof.Machine.execNop s
  | .wai => Sys2Proof.Machine.execWai s
  | .stp => Sys2Proof.Machine.execStp s
  | .undefined form => Sys2Proof.Machine.execUndefined form s
  | .opBreakpoint => Sys2Proof.Machine.execOpBreakpoint s
  | .opRegdump => Sys2Proof.Machine.execOpRegdump s
  | .opMemdump => Sys2Proof.Machine.execOpMemdump s

end Sys2Proof.Machine
end

