-- ==== Sys2Proof/Machine/Step.lean ====
section
/-! DEFINITION. One step (40_pipeline.md R93): the bare `step()`, which no controller state affects (60 R300), and the
host's way to place an instruction. -/

namespace Sys2Proof.Machine

/-- `step()` (40 R93): a faulted instance takes no step; the bound check; fetch and lookup; operand resolution, whose
UnsupportedAddressingMode no instruction reaches; then the instruction's meaning, which raises UnsupportedInstruction
for an undefined value itself. -/
def step (s : State) : Host.Outcome State Fault Refusal :=
  match s.fault with
  | some record => .fault (.instanceFaulted record)
  | none =>
    if pcBeyondMemory s.pc then .next (boundFinished s)
    else
      match unsupportedMode (fetchInstr s) with
      | some mode => raiseFault (.unsupportedAddressingMode mode s.pc) s
      | none => exec (fetchInstr s) s

/-- `s` with the instruction of bits `w` stored at PC and the two addresses after it, and no recorded fault, which a
fetch needs (log 22). The parameters stay: a debug opcode assigned in `s` takes its value here too. -/
def State.withFetchWord (s : State) (nbits w : Nat) : State :=
  let bytes := tableWordBytes nbits w
  let s1 := memWrite s s.pc (bytes.getD 0 0)
  let s2 := memWrite s1 (s.pc + 1) (bytes.getD 1 0)
  let s3 := memWrite s2 (s.pc + 2) (bytes.getD 2 0)
  { s3 with fault := none }

end Sys2Proof.Machine
end

