-- ==== Sys2Proof/Machine/Controller.lean ====
section
/-! DEFINITION. The execution controller (60_exceptions.md R300 to R306): its transitions, the pause handler and
`runUntilFinish`. The command source is the list of the texts it will still deliver; it is closed when the list is
empty (log 10). A run is bounded by its caller (60 R308; log 11). -/

namespace Sys2Proof.Machine

/-- What the pause handler gives back: whether it resumed (otherwise the source is closed or detached), the state, and
the commands left. -/
structure PauseResult where
  resumed : Bool
  state : State
  commands : List String
deriving DecidableEq, Repr

/-- The pause-handler protocol (60 R305): an exact match on the text; an unknown command is ignored. -/
def pauseHandler : List String → State → PauseResult
  | [], s => { resumed := false, state := s, commands := [] }
  | command :: rest, s =>
    if command = "continue" ∨ command = "c" then
      { resumed := true, state := { s with singleStep := false }, commands := rest }
    else if command = "regs" then pauseHandler rest (emit (registerDiagnostic s) s)
    else if command = "step" then { resumed := true, state := { s with singleStep := true }, commands := rest }
    else pauseHandler rest s

/-- What `runUntilFinish` gives back, with the state and the commands left. -/
inductive RunResult where
  /-- It returned its step count: the run is Finished, or the command source was detached while Paused. -/
  | returned (stepCount : Nat) (state : State) (commands : List String)
  /-- A step faulted; the fault record is reported instead of a step count (60 R303). -/
  | aborted (record : FaultRecord) (state : State) (commands : List String)
  /-- A step was refused; no modelled instruction is. -/
  | refused (reason : Refusal) (state : State) (commands : List String)
  /-- The caller's bound was reached before the run ended (60 R308). -/
  | unfinished (stepCount : Nat) (state : State) (commands : List String)
deriving DecidableEq, Repr

/-- The transition of a completed step outside single-step mode (60 R300 to R302). -/
def runStateAfter (out : StepOutcome) (current : RunState) : RunState :=
  match out with
  | .cont => current
  | .pause => .paused
  | .finished => .finished

/-- The run state after the pause of a single-stepped instruction: Finished stays terminal (60 R304, R306). -/
def runStateResumed (out : StepOutcome) : RunState :=
  match out with
  | .cont => .running
  | .pause => .running
  | .finished => .finished

/-- What a completed step adds to the step count: a bound-check Finished, which fetches nothing, adds 0 (60 R306). -/
def countedSteps (s : State) : Nat := if pcBeyondMemory s.pc then 0 else 1

/-- The loop of `runUntilFinish` (60 R306) for at most `bound` turns, from the step count `n`. -/
def runLoop : Nat → Nat → List String → State → RunResult
  | 0, n, commands, s => .unfinished n s commands
  | bound + 1, n, commands, s =>
    match s.runState with
    | .finished => .returned n s commands
    | .paused =>
      let p := pauseHandler commands s
      if p.resumed then runLoop bound n p.commands { p.state with runState := .running }
      else .returned n p.state p.commands
    | .running =>
      match step s with
      | .fault (.instanceFaulted record) => .aborted record s commands
      | .refused reason => .refused reason s commands
      | .next t =>
        match t.fault with
        | some record => .aborted record t commands
        | none =>
          let n' := n + countedSteps s
          if t.singleStep then
            let p := pauseHandler commands { t with runState := .paused }
            if p.resumed then runLoop bound n' p.commands { p.state with runState := runStateResumed t.outcome }
            else .returned n' p.state p.commands
          else runLoop bound n' commands { t with runState := runStateAfter t.outcome t.runState }

/-- `runUntilFinish()` (60 R306). The step count is local to one call. -/
def runUntilFinish (bound : Nat) (commands : List String) (s : State) : RunResult := runLoop bound 0 commands s

end Sys2Proof.Machine
end

