-- ==== Sys2Proof/Machine/HostOps.lean ====
section
/-! DEFINITION. The host operations between steps (70_reset_and_hazards.md R320 to R326): Reset, the fresh instance,
program load, snapshot import and export, and the comparison with an expected state (with 40_pipeline.md R91). -/

namespace Sys2Proof.Machine

/-- Why a host operation is refused; the instance is then unchanged. -/
inductive HostRefusal where
  /-- The program runs past 0xFFFF (70 R322). -/
  | programTooLong
  /-- A required field is missing (70 R324). -/
  | missingField
  /-- A register value is outside its width (70 R324). -/
  | fieldTooWide
  /-- A memory key is outside 0..65535 (70 R324). -/
  | memoryKeyOutOfRange
  /-- A memory value is outside 0..255 (70 R324). -/
  | memoryValueOutOfRange
deriving DecidableEq, Repr

/-- A host operation's result: the instance afterwards, and the reason when it was refused. -/
structure HostResult where
  state : State
  refusal : Option HostRefusal
deriving DecidableEq, Repr

/-- The operation was carried out. -/
def HostResult.done (s : State) : HostResult := { state := s, refusal := none }

/-- The operation was refused: the instance is the one before. -/
def HostResult.refuse (reason : HostRefusal) (s : State) : HostResult := { state := s, refusal := some reason }

/-- The controller, the cycle total and the fault record of a new run (10 R33; the last outcome is log 13). -/
def newRun (s : State) : State :=
  { s with totalCycles := 0, runState := .running, singleStep := false, fault := none, outcome := .cont }

/-- `Reset(start)` (70 R320): memory is unchanged; the flags are set directly, not through the setters. -/
def resetAt (start : Word) (s : State) : State :=
  newRun { s with pc := start, a := 0x00, x := 0x00, y := 0x00, sp := 0xFF, flags := Flags.clear }

/-- A fresh instance built with given parameters (70 R321): zeroed memory, then `Reset(start)`. -/
def freshInstance (params : Params) (start : Word) : State :=
  resetAt start { State.reset with mem := [], log := [], params := params }

/-- Store a list of bytes from an address on. -/
def Memory.writeBytes : Memory → Nat → List Byte → Memory
  | m, _, [] => m
  | m, base, b :: rest => Memory.writeBytes (Memory.write m base b) (base + 1) rest

/-- `loadProgram(bytes, base)` (70 R322). -/
def loadProgram (bytes : List Byte) (base : Word) (s : State) : HostResult :=
  if memoryBound < base.toNat + bytes.length then .refuse .programTooLong s
  else .done (resetAt base { s with mem := s.mem.writeBytes base.toNat bytes })

/-- A snapshot as the host hands it over (70 R323): a field may be missing, and a value may be outside its width. -/
structure Snapshot where
  pc : Option Nat
  a : Option Nat
  x : Option Nat
  y : Option Nat
  s : Option Nat
  p : Option Nat
  memory : List (Nat × Nat)
deriving DecidableEq, Repr

/-- The six register fields, when all are present. -/
structure SnapshotFields where
  pc : Nat
  a : Nat
  x : Nat
  y : Nat
  s : Nat
  p : Nat
deriving DecidableEq, Repr

/-- The register fields of a snapshot that misses none. -/
def Snapshot.fields (snap : Snapshot) : Option SnapshotFields :=
  match snap.pc, snap.a, snap.x, snap.y, snap.s, snap.p with
  | some pc, some a, some x, some y, some s, some p => some { pc := pc, a := a, x := x, y := y, s := s, p := p }
  | _, _, _, _, _, _ => none

/-- Every register value lies inside its width. -/
def SnapshotFields.inWidth (f : SnapshotFields) : Bool :=
  decide (f.pc < 65536) && decide (f.a < 256) && decide (f.x < 256) && decide (f.y < 256) && decide (f.s < 256)
    && decide (f.p < 256)

/-- Memory overrides written in their order over a memory (70 R324; log 25). -/
def Memory.override : Memory → List (Nat × Nat) → Memory
  | m, [] => m
  | m, (k, v) :: rest => Memory.override (Memory.write m k (BitVec.ofNat 8 v)) rest

/-- `FromState(snapshot)` (70 R324): rejected before any mutation, or memory zeroed and overridden and every register
and flag set directly, with no re-derivation of Z and N. -/
def fromState (snap : Snapshot) (s : State) : HostResult :=
  match snap.fields with
  | none => .refuse .missingField s
  | some f =>
    if f.inWidth = false then .refuse .fieldTooWide s
    else if snap.memory.any (fun kv => decide (memoryBound ≤ kv.1)) then .refuse .memoryKeyOutOfRange s
    else if snap.memory.any (fun kv => decide (256 ≤ kv.2)) then .refuse .memoryValueOutOfRange s
    else
      .done (newRun
        { s with
          pc := BitVec.ofNat 16 f.pc, a := BitVec.ofNat 8 f.a, x := BitVec.ofNat 8 f.x, y := BitVec.ofNat 8 f.y,
          sp := BitVec.ofNat 8 f.s, flags := Flags.unpack (BitVec.ofNat 8 f.p),
          mem := Memory.override [] snap.memory })

/-- `GetState()` (70 R325): the registers, the packed P and the complete memory image. -/
def getState (s : State) : Snapshot :=
  { pc := some s.pc.toNat, a := some s.a.toNat, x := some s.x.toNat, y := some s.y.toNat, s := some s.sp.toNat,
    p := some s.flags.pack.toNat,
    memory := (List.range memoryBound).map (fun k => (k, (s.mem.read k).toNat)) }

/-- The comparison of 70 R326: PC, A, X, Y and S exactly, P without bit 5, memory at the expected addresses. DESIGN
CHOICE: an expected state that misses a register matches nothing (safe, log 26); an expected P is compared by its low
8 bits, and an expected address past 0xFFFF reads as 0x00 (unsafe, log 30). -/
def matchesExpected (expected : Snapshot) (s : State) : Bool :=
  decide (expected.pc = some s.pc.toNat) && decide (expected.a = some s.a.toNat) &&
  decide (expected.x = some s.x.toNat) && decide (expected.y = some s.y.toNat) &&
  decide (expected.s = some s.sp.toNat) &&
  decide (expected.p.map (fun p => BitVec.ofNat 8 p &&& 0xDF) = some (s.flags.pack &&& 0xDF)) &&
  expected.memory.all (fun kv => decide ((s.mem.read kv.1).toNat = kv.2))

/-- The conformance check of one vector (40 R91): import `initial`, take one step, compare with `final`. DESIGN CHOICE,
unsafe, log 29: the comparison does not look at the fault record, so a vector whose step faults conforms when `final`
is the state it kept. -/
def conforms (params : Params) (initial final : Snapshot) : Bool :=
  let r := fromState initial (freshInstance params 0)
  match r.refusal with
  | some _ => false
  | none =>
    match step r.state with
    | .next t => matchesExpected final t
    | .fault _ => false
    | .refused _ => false

end Sys2Proof.Machine
end

