-- ==== Sys2Proof/Safety.lean ====
section
/-! DEFINITION. What the claims call a good state and a safe step: memory in canonical form, legal parameters, and a
recorded fault that the state itself explains. -/

namespace Sys2Proof.Machine

/-- A recorded fault is the one the state at PC raises: PC is PC_start, the byte there is the recorded opcode, it is an
undefined value that no debug opcode takes, and the policy is `fault` (60 R290, R292). No mode fault is ever recorded
(41 R119). -/
def FaultRecord.explainedBy (record : FaultRecord) (s : State) : Bool :=
  match record with
  | .unsupportedInstruction opcode pc =>
    decide (pc = s.pc) && decide (opcode = memRead s s.pc) && decide (opcode ∈ undefinedOpcodes)
      && decide (opcode ∉ s.params.debugOpcodes.values) && decide (s.params.undefPolicy = .fault)
  | .unsupportedAddressingMode _ _ => false

/-- No fault is recorded, or the state explains it. -/
def State.faultExplained (s : State) : Bool :=
  match s.fault with
  | none => true
  | some record => record.explainedBy s

/-- The invariant of every run: memory's canonical form (its addresses lie in the 65,536-byte space), legal parameters,
and an explained fault. -/
structure State.Inv (s : State) : Prop where
  mem : s.mem.wf = true
  params : s.params.wf = true
  fault : s.faultExplained = true

/-- The instance can take a step: no fault is recorded. -/
def State.live (s : State) : Bool := s.fault.isNone

/-- The part of the state that instructions can read or that the conformance law compares: controller state and
diagnostics left out (40 R91, 46 R278, 60 R300). -/
def State.architectural (s : State) : State := { s with runState := .running, singleStep := false, log := [] }

end Sys2Proof.Machine
end

