-- ==== Sys2Proof/Certificates/Slice0/Obligations.lean ====
section
/-! DEFINITION. The statements for the provers. Each says what a numbered rule of spec/ (or several) makes the machine
do. "after i extra s" is the state that an instruction which only takes its time and its bytes leaves; an instruction's
statement names every field that differs from it, so each equation is result and frame in one. The base cycle numbers
(30_encoding.md R66) are the spec's own decision D7: a statement that gives one has basis 'derived'. -/

namespace Sys2Proof.Spec

open Sys2Proof.Machine

/-- The Z and N of a value, on numbers (10 R24, 40 R87). -/
def znOf (f : Flags) (v : Byte) : Flags := { f with z := decide (v.toNat = 0), n := decide (128 ≤ v.toNat) }

/-- PC_next, the base cycles plus `extra`, and the outcome Continue: nothing else changes (40 R84, R85, R86). -/
def after (i : Instr) (extra : Nat) (s : State) : State :=
  { s with
    pc := BitVec.ofNat 16 (s.pc.toNat + i.length),
    totalCycles := s.totalCycles + i.baseCycles s.params + extra,
    outcome := .cont }

/-- One extra cycle for a page cross (41 R101). -/
def crossCost (crossed : Bool) : Nat := if crossed then 1 else 0

/-- The rows of the opcode table for an instruction, addressing mode and opcode: the instruction exists exactly in the
listed modes, and in each of them its opcode followed by its operand bytes decodes to it, whatever follows. -/
def Rows (i : Instr) (rows : List (AddrMode × Byte)) : Prop :=
  (∀ dbg : DebugOpcodes, i.wellFormed dbg = true ↔ i.mode ∈ rows.map Prod.fst) ∧
  ∀ row ∈ rows, row.1 = i.mode → ∀ (dbg : DebugOpcodes) (rest : List Byte),
    decode dbg (row.2 :: (i.bytes ++ rest)) = .ok (i, rest)

/-- The address of the stack byte `k` above S, on numbers, wrapping in page 1 (20 R50). -/
def stackAt (s : State) (k : Nat) : Nat := 256 + (s.sp.toNat + k) % 256

/-- RMBb by its bit number. -/
def rmb (b : Nat) (zp8 : Byte) : Instr :=
  match b with
  | 0 => .rmb0 zp8
  | 1 => .rmb1 zp8
  | 2 => .rmb2 zp8
  | 3 => .rmb3 zp8
  | 4 => .rmb4 zp8
  | 5 => .rmb5 zp8
  | 6 => .rmb6 zp8
  | _ => .rmb7 zp8

/-- SMBb by its bit number. -/
def smb (b : Nat) (zp8 : Byte) : Instr :=
  match b with
  | 0 => .smb0 zp8
  | 1 => .smb1 zp8
  | 2 => .smb2 zp8
  | 3 => .smb3 zp8
  | 4 => .smb4 zp8
  | 5 => .smb5 zp8
  | 6 => .smb6 zp8
  | _ => .smb7 zp8

/-- BBRb by its bit number. -/
def bbr (b : Nat) (zp8 rel8 : Byte) : Instr :=
  match b with
  | 0 => .bbr0 zp8 rel8
  | 1 => .bbr1 zp8 rel8
  | 2 => .bbr2 zp8 rel8
  | 3 => .bbr3 zp8 rel8
  | 4 => .bbr4 zp8 rel8
  | 5 => .bbr5 zp8 rel8
  | 6 => .bbr6 zp8 rel8
  | _ => .bbr7 zp8 rel8

/-- BBSb by its bit number. -/
def bbs (b : Nat) (zp8 rel8 : Byte) : Instr :=
  match b with
  | 0 => .bbs0 zp8 rel8
  | 1 => .bbs1 zp8 rel8
  | 2 => .bbs2 zp8 rel8
  | 3 => .bbs3 zp8 rel8
  | 4 => .bbs4 zp8 rel8
  | 5 => .bbs5 zp8 rel8
  | 6 => .bbs6 zp8 rel8
  | _ => .bbs7 zp8 rel8

/-- The conditional branch whose opcode has flag field `ff` and value bit `v` (30 R63). -/
def branchOf (ff : Nat) (v : Bool) (rel8 : Byte) : Instr :=
  match ff, v with
  | 0, false => .bpl rel8
  | 0, true => .bmi rel8
  | 1, false => .bvc rel8
  | 1, true => .bvs rel8
  | 2, false => .bcc rel8
  | 2, true => .bcs rel8
  | _, false => .bne rel8
  | _, true => .beq rel8

/-- A branch instruction's end (45 R230): not taken it leaves PC_next and costs nothing extra; taken it loads
PC_next + the signed displacement modulo 65536, and costs 1, or 2 when the target's page is not PC_next's. -/
def BranchEnds (i : Instr) (rel8 : Byte) (taken : Bool) (s : State) : Prop :=
  let next := (after i 0 s).pc.toNat
  let target : Word := BitVec.ofInt 16 ((next : Int) + rel8.toInt)
  exec i s = .next
    (if taken then { after i (if target.toNat / 256 = next / 256 then 1 else 2) s with pc := target } else after i 0 s)

/-- A byte that encodes two decimal digits. -/
def isBcd (b : Byte) : Prop := b.toNat % 16 ≤ 9 ∧ b.toNat / 16 ≤ 9

/-- The number the two digits of a byte make. -/
def bcdValue (b : Byte) : Nat := 10 * (b.toNat / 16) + b.toNat % 16

/-- Apply a function to the state of a next-state answer. -/
def mapNext (f : State → State) : Answer → Answer
  | .next t => .next (f t)
  | .fault r => .fault r
  | .refused r => .refused r

/-- The addresses an instruction stores to, computed from the state it starts in (20 R48). -/
def storeAddrs (i : Instr) (s : State) : List Word :=
  match i with
  | .sta ea => [(resolveEa ea s).addr]
  | .stx ea => [(resolveEa ea s).addr]
  | .sty ea => [(resolveEa ea s).addr]
  | .stz ea => [(resolveEa ea s).addr]
  | .tsb ea => [(resolveEa ea s).addr]
  | .trb ea => [(resolveEa ea s).addr]
  | .inc (.mem ea) => [(resolveEa ea s).addr]
  | .dec (.mem ea) => [(resolveEa ea s).addr]
  | .asl (.mem ea) => [(resolveEa ea s).addr]
  | .lsr (.mem ea) => [(resolveEa ea s).addr]
  | .rol (.mem ea) => [(resolveEa ea s).addr]
  | .ror (.mem ea) => [(resolveEa ea s).addr]
  | .rmb0 z | .rmb1 z | .rmb2 z | .rmb3 z | .rmb4 z | .rmb5 z | .rmb6 z | .rmb7 z => [zext16 z]
  | .smb0 z | .smb1 z | .smb2 z | .smb3 z | .smb4 z | .smb5 z | .smb6 z | .smb7 z => [zext16 z]
  | .pha => [stackAddr s.sp]
  | .phx => [stackAddr s.sp]
  | .phy => [stackAddr s.sp]
  | .php => [stackAddr s.sp]
  | .jsr _ => [stackAddr s.sp, stackAddr (s.sp - 1)]
  | .brk =>
    match s.params.brkMode with
    | .terminal => []
    | .vectored => [stackAddr s.sp, stackAddr (s.sp - 1), stackAddr (s.sp - 2)]
  | _ => []

/-- The instructions that write A (10 R13). -/
def writesA (i : Instr) : Bool :=
  decide (i.mnemonic ∈ [.lda, .pla, .txa, .tya, .adc, .sbc, .and, .ora, .eor]) ||
  (decide (i.mode = .accumulator) && decide (i.mnemonic ∈ [.asl, .lsr, .rol, .ror, .inc, .dec]))

/-- The instructions that write X (10 R13). -/
def writesX (i : Instr) : Bool := decide (i.mnemonic ∈ [.ldx, .plx, .tax, .tsx, .inx, .dex])

/-- The instructions that write Y (10 R13). -/
def writesY (i : Instr) : Bool := decide (i.mnemonic ∈ [.ldy, .ply, .tay, .iny, .dey])

/-- How far an instruction moves S, for those that step it (10 R14); TXS is apart. -/
def spStep (i : Instr) (s : State) : Byte :=
  match i with
  | .pha => 0xFF
  | .phx => 0xFF
  | .phy => 0xFF
  | .php => 0xFF
  | .pla => 1
  | .plx => 1
  | .ply => 1
  | .plp => 1
  | .jsr _ => 0xFE
  | .rts => 2
  | .rti => 3
  | .brk => if s.params.brkMode = .vectored then 0xFD else 0
  | _ => 0

/-- Vectored BRK (45 R247). -/
def isVectoredBrk (i : Instr) (s : State) : Bool :=
  decide (i.mnemonic = .brk) && decide (s.params.brkMode = .vectored)

/-- The instructions that write C (10 R20). -/
def writesC (i : Instr) : Bool :=
  decide (i.mnemonic ∈ [.adc, .sbc, .cmp, .cpx, .cpy, .asl, .lsr, .rol, .ror, .clc, .sec, .plp, .rti])

/-- The instructions that write N (10 R20). -/
def writesN (i : Instr) : Bool :=
  writesA i || writesX i || writesY i ||
  decide (i.mnemonic ∈ [.cmp, .cpx, .cpy, .asl, .lsr, .rol, .ror, .inc, .dec, .plp, .rti]) ||
  (decide (i.mnemonic = .bit) && decide (i.mode ≠ .immediate))

/-- The instructions that write Z (10 R20). -/
def writesZ (i : Instr) : Bool := writesN i || decide (i.mnemonic ∈ [.bit, .tsb, .trb])

/-- The instructions that write V (10 R20). -/
def writesV (i : Instr) : Bool :=
  decide (i.mnemonic ∈ [.adc, .sbc, .clv, .plp, .rti]) || (decide (i.mnemonic = .bit) && decide (i.mode ≠ .immediate))

/-- The instructions that write I in a given state (10 R20). -/
def writesI (i : Instr) (s : State) : Bool := decide (i.mnemonic ∈ [.cli, .sei, .plp, .rti]) || isVectoredBrk i s

/-- The instructions that write D in a given state (10 R20). -/
def writesD (i : Instr) (s : State) : Bool := decide (i.mnemonic ∈ [.cld, .sed, .plp, .rti]) || isVectoredBrk i s

/-- The instructions that write B (10 R23). -/
def writesB (i : Instr) : Bool := decide (i.mnemonic ∈ [.plp, .rti])

/-- The instruction ends the run with Finished (40 R81). -/
def isHalt (i : Instr) (s : State) : Bool :=
  decide (i.mnemonic ∈ [.wai, .stp]) || (decide (i.mnemonic = .brk) && decide (s.params.brkMode = .terminal))

end Sys2Proof.Spec

open Sys2Proof Sys2Proof.Machine Sys2Proof.Spec

/-- For every legal assignment of the debug opcodes, every well-formed instruction with every operand value, and
every continuation of the byte string, decoding its encoding followed by the continuation answers the instruction
and the continuation. The encoder is written from the opcode lists of the instruction rules and the decoder from the
opcode map, so the statement compares the two. [30_encoding.md §1 to §5 (R61, R62, R64, R65, R67, R72),
42_load_store_transfer.md to 46_flags_misc.md, the opcode lists of the instruction rules] -/
def Obligations.DecodeOfEncodeIsTheInstruction : Prop :=
  ∀ (dbg : DebugOpcodes) (i : Instr) (rest : List Byte),
    dbg.wf = true → i.wellFormed dbg = true → decode dbg (encode dbg i ++ rest) = .ok (i, rest)

/-- Whatever byte string decodes to an instruction i and a rest, i is well-formed, the string is the encoding of i
followed by the rest, and i is 1, 2 or 3 bytes long: each word has one meaning. [30_encoding.md §1, §3, §5 (R61,
R64, R65, R67, R74), 41_addressing.md R120] -/
def Obligations.DecodedBytesAreTheEncoding : Prop :=
  ∀ (dbg : DebugOpcodes) (bytes rest : List Byte) (i : Instr),
    decode dbg bytes = .ok (i, rest) →
      i.wellFormed dbg = true ∧ bytes = encode dbg i ++ rest ∧ 1 ≤ i.length ∧ i.length ≤ 3

/-- There are 44 distinct undefined opcode values, the opcode map has no instruction exactly at them, and each form
has the length and base cost of the table of undefined values. A descriptor that lookup answers has the opcode
looked up, and lookup answers none exactly when the value is undefined, no debug opcode takes it and the policy is
fault. [30_encoding.md §3, §4 (R64 to R67), 40_pipeline.md R84, 90_conflicts.md C10, 92_eei_decisions.md D2] -/
def Obligations.UndefinedValuesAreTheOtherBytes : Prop :=
  undefinedOpcodes.length = 44 ∧ undefinedOpcodes.Nodup ∧
  (∀ op b1 b2 : Byte, (∃ form, decodeMap op b1 b2 = .undefined form) ↔ op ∈ undefinedOpcodes) ∧
  (∀ (p : Params) (form : UndefForm), form.wf = true →
    ((Instr.undefined form).length, (Instr.undefined form).baseCycles p) =
      match form with
      | .one _ => (1, 1)
      | .imm _ _ => (2, 2)
      | .zp _ _ => (2, 3)
      | .zpX _ _ => (2, 4)
      | .abs op _ => if op = 0x5C then (3, 8) else (3, 4)) ∧
  ∀ (p : Params) (op : Byte),
    (∀ d, lookup p op = some d → d.opcode = op) ∧
    (lookup p op = none ↔ op ∈ undefinedOpcodes ∧ op ∉ p.debugOpcodes.values ∧ p.undefPolicy = .fault)

/-- Low nibble 7 selects RMB or SMB and low nibble F selects BBR or BBS, by opcode bit 7, with the bit number in
opcode[6:4]; a conditional branch is ffv10000 with the flag in ff and the wanted value in v; BRA is 0x80. [R63] -/
def Obligations.OpcodeBitFieldsOfBitOperationsAndBranches : Prop :=
  (∀ op b1 b2 : Byte, op.toNat % 16 = 7 →
    decodeMap op b1 b2 = if op.toNat < 128 then rmb (op.toNat / 16 % 8) b1 else smb (op.toNat / 16 % 8) b1) ∧
  (∀ op b1 b2 : Byte, op.toNat % 16 = 15 →
    decodeMap op b1 b2 = if op.toNat < 128 then bbr (op.toNat / 16 % 8) b1 b2 else bbs (op.toNat / 16 % 8) b1 b2) ∧
  (∀ op b1 b2 : Byte, op.toNat % 32 = 16 → decodeMap op b1 b2 = branchOf (op.toNat / 64) (op.getLsbD 5) b1) ∧
  (∀ b1 b2 : Byte, decodeMap 0x80 b1 b2 = .bra b1)

/-- The base cycle cost, by addressing mode, of LDA, LDX, LDY, STA, STX, STY, STZ, ADC, SBC, AND, ORA, EOR, CMP,
CPX, CPY, BIT, TSB, TRB, ASL, LSR, ROL, ROR, INC and DEC, and of the six transfers, PHP, PLP, INX, INY, DEX and DEY.
The numbers are the decision D7 of the spec. [30_encoding.md §3 (R66), 92_eei_decisions.md D7] -/
def Obligations.BaseCyclesOfReadAndStoreForms : Prop :=
  ∀ (p : Params),
    (∀ (k : Src → Instr), k ∈ [Instr.lda, Instr.adc, Instr.sbc, Instr.and, Instr.ora, Instr.eor, Instr.cmp] →
      ∀ (b : Byte) (w : Word),
        [k (.imm b), k (.mem (.zp b)), k (.mem (.zpX b)), k (.mem (.abs w)), k (.mem (.absX w)), k (.mem (.absY w)),
          k (.mem (.zpXInd b)), k (.mem (.zpIndY b)), k (.mem (.zpInd b))].map (Instr.baseCycles p)
          = [2, 3, 4, 4, 4, 4, 6, 5, 5]) ∧
    (∀ (k : Rmw → Instr), k ∈ [Instr.asl, Instr.lsr, Instr.rol, Instr.ror, Instr.inc, Instr.dec] →
      ∀ (b : Byte) (w : Word),
        [k .acc, k (.mem (.zp b)), k (.mem (.zpX b)), k (.mem (.abs w))].map (Instr.baseCycles p) = [2, 5, 6, 6]) ∧
    (∀ (b : Byte) (w : Word),
      [Instr.sta (.zp b), .sta (.zpX b), .sta (.abs w), .sta (.absX w), .sta (.absY w), .sta (.zpXInd b),
        .sta (.zpIndY b), .sta (.zpInd b)].map (Instr.baseCycles p) = [3, 4, 4, 5, 5, 6, 6, 5] ∧
      [Instr.asl (.mem (.absX w)), .lsr (.mem (.absX w)), .rol (.mem (.absX w)), .ror (.mem (.absX w)),
        .inc (.mem (.absX w)), .dec (.mem (.absX w))].map (Instr.baseCycles p) = [6, 6, 6, 6, 7, 7]) ∧
    (∀ (b : Byte) (w : Word),
      [Instr.ldx (.imm b), .ldx (.mem (.zp b)), .ldx (.mem (.zpY b)), .ldx (.mem (.abs w)),
        .ldx (.mem (.absY w))].map (Instr.baseCycles p) = [2, 3, 4, 4, 4] ∧
      [Instr.ldy (.imm b), .ldy (.mem (.zp b)), .ldy (.mem (.zpX b)), .ldy (.mem (.abs w)),
        .ldy (.mem (.absX w))].map (Instr.baseCycles p) = [2, 3, 4, 4, 4] ∧
      [Instr.stx (.zp b), .stx (.zpY b), .stx (.abs w)].map (Instr.baseCycles p) = [3, 4, 4] ∧
      [Instr.sty (.zp b), .sty (.zpX b), .sty (.abs w)].map (Instr.baseCycles p) = [3, 4, 4] ∧
      [Instr.stz (.zp b), .stz (.zpX b), .stz (.abs w), .stz (.absX w)].map (Instr.baseCycles p) = [3, 4, 4, 5] ∧
      [Instr.cpx (.imm b), .cpx (.mem (.zp b)), .cpx (.mem (.abs w))].map (Instr.baseCycles p) = [2, 3, 4] ∧
      [Instr.cpy (.imm b), .cpy (.mem (.zp b)), .cpy (.mem (.abs w))].map (Instr.baseCycles p) = [2, 3, 4] ∧
      [Instr.bit (.imm b), .bit (.mem (.zp b)), .bit (.mem (.zpX b)), .bit (.mem (.abs w)),
        .bit (.mem (.absX w))].map (Instr.baseCycles p) = [2, 3, 4, 4, 4] ∧
      [Instr.tsb (.zp b), .tsb (.abs w), .trb (.zp b), .trb (.abs w)].map (Instr.baseCycles p) = [5, 6, 5, 6]) ∧
    (∀ i ∈ [Instr.tax, .tay, .txa, .tya, .tsx, .txs, .inx, .iny, .dex, .dey], i.baseCycles p = 2) ∧
    Instr.php.baseCycles p = 3 ∧ Instr.plp.baseCycles p = 4

/-- A word of each family, written out from the encoding tables, decodes to the instruction the opcode map gives it.
[30_encoding.md §1, §2, §3 (R61, R62, R64, R65), 95_test_vectors.md §2] -/
def Obligations.EncodedWordsOfEveryFamily : Prop :=
  decode .absent [0b10101001, 0x42] = .ok (.lda (.imm 0x42), []) ∧
  decode .absent [0b10001101, 0x00, 0x02] = .ok (.sta (.abs 0x0200), []) ∧
  decode .absent [0b10101010] = .ok (.tax, []) ∧
  decode .absent [0b00001000] = .ok (.php, []) ∧
  decode .absent [0b01110001, 0x40] = .ok (.adc (.mem (.zpIndY 0x40)), []) ∧
  decode .absent [0b01111110, 0xFF, 0x12] = .ok (.ror (.mem (.absX 0x12FF)), []) ∧
  decode .absent [0b10110111, 0x10] = .ok (.smb3 0x10, []) ∧
  decode .absent [0b11111111, 0x10, 0xFD] = .ok (.bbs7 0x10 0xFD, []) ∧
  decode .absent [0b11110000, 0x05] = .ok (.beq 0x05, []) ∧
  decode .absent [0b01111100, 0x00, 0x10] = .ok (.jmp (.indX 0x1000), []) ∧
  decode .absent [0b00000000] = .ok (.brk, []) ∧
  decode .absent [0b11111000] = .ok (.sed, []) ∧
  decode .absent [0b01011100, 0x34, 0x12] = .ok (.undefined (.abs 0x5C 0x1234), [])

/-- When no fault is recorded and the bytes from PC on, each address modulo 65536, are the encoding of a well-formed
instruction i, the step is exec of i on that state; exec itself moves PC past the bytes of i. [40_pipeline.md R82 to
R86, R93, 41_addressing.md R100] -/
def Obligations.StepRunsTheDecodedInstruction : Prop :=
  ∀ (s : State) (i : Instr),
    s.fault = none → s.params.debugOpcodes.wf = true → i.wellFormed s.params.debugOpcodes = true →
    (∀ k b, (encode s.params.debugOpcodes i)[k]? = some b → memRead s (s.pc + BitVec.ofNat 16 k) = b) →
      step s = exec i s

/-- An instruction that has a descriptor (every one but an undefined value under fault) answers a next state from
every state, records no fault, and costs its base cycles plus at most two extra ones. [60_exceptions.md R291 (which
the spec marks as derived), 40_pipeline.md R85] -/
def Obligations.EveryInstructionCompletes : Prop :=
  ∀ (i : Instr) (s : State), (i.mnemonic ≠ .undefined ∨ s.params.undefPolicy = .wdcNop) →
    ∃ (t : State) (extra : Nat),
      exec i s = .next t ∧ t.fault = s.fault ∧ extra ≤ 2 ∧
      t.totalCycles = s.totalCycles + i.baseCycles s.params + extra

/-- When an instruction answers a next state, runState, singleStep and the parameters are unchanged, no instruction
but an undefined value sets the fault, and only OP_REGDUMP and OP_MEMDUMP add to the log. [10_state.md R30, R32,
60_exceptions.md R300 and 92_eei_decisions.md D31, 46_flags_misc.md R276 to R278] -/
def Obligations.ControllerParametersAndLogFrame : Prop :=
  ∀ (i : Instr) (s t : State), exec i s = .next t →
    t.runState = s.runState ∧ t.singleStep = s.singleStep ∧ t.params = s.params ∧
    (i.mnemonic ≠ .undefined → t.fault = s.fault) ∧
    (i.mnemonic ∉ [.opRegdump, .opMemdump] → t.log = s.log)

/-- For a completed step, the outcome is Pause exactly when the instruction is OP_BREAKPOINT, and Finished exactly
when it is BRK in terminal mode, STP or WAI; every other completed instruction gives Continue. The bound check,
which R81 lists too, ends no step, since a 16-bit PC never meets it: the decision D11 of the spec, deduced for the
model in log 20. [40_pipeline.md R81, R82, 20_memory.md R57, 92_eei_decisions.md D11, notes/assumptions/20.md] -/
def Obligations.OutcomesComeFromTheirInstructionsOnly : Prop :=
  ∀ (s t : State), s.fault = none → step s = .next t → t.fault = none →
    (t.outcome = .pause ↔ fetchInstr s = .opBreakpoint) ∧
    (t.outcome = .finished ↔ isHalt (fetchInstr s) s = true)

/-- From every state with canonical memory inside the 65,536-byte space, legal parameters and no unexplained fault,
a step that answers a next state answers one with the same three properties; in particular no step records
UnsupportedAddressingMode. [20_memory.md R40, R44, 60_exceptions.md R290, R292, 41_addressing.md R119] -/
def Obligations.StepKeepsInvariant : Prop :=
  ∀ (s t : State), s.Inv → step s = .next t → t.Inv

/-- State.reset meets the invariant, and so does a fresh instance at any start address with any legal parameters.
[70_reset_and_hazards.md R320, R321] -/
def Obligations.ResetStateHasInvariant : Prop :=
  State.reset.Inv ∧
  ∀ (params : Params) (start : Word), params.wf = true → (freshInstance params start).Inv

/-- Reset at any address, loading any byte list at any base and importing any snapshot, accepted or refused, keep
the invariant. [70_reset_and_hazards.md R320, R322, R324] -/
def Obligations.HostOperationsKeepInvariant : Prop :=
  ∀ (s : State), s.Inv →
    (∀ start, (resetAt start s).Inv) ∧ (∀ bytes base, (loadProgram bytes base s).state.Inv) ∧
    (∀ snap, (fromState snap s).state.Inv)

/-- From a state with the invariant, the state that runUntilFinish returns, aborts with or reaches at the caller's
bound has the invariant, for every command sequence. [60_exceptions.md R303, R305, R306, R308] -/
def Obligations.ControllerRunKeepsInvariant : Prop :=
  ∀ (bound : Nat) (commands : List String) (s t : State),
    s.Inv →
    (∃ n rest, runUntilFinish bound commands s = .returned n t rest ∨ runUntilFinish bound commands s = .unfinished n t rest) ∨
      (∃ record rest, runUntilFinish bound commands s = .aborted record t rest) →
    t.Inv

/-- With memory in canonical form, a byte reads back at the address written, every other address reads as before,
the form is kept, and nothing but memory changes; a read is a function of memory alone and changes no state. [R44] -/
def Obligations.MemoryWriteChangesOneByte : Prop :=
  ∀ (s : State) (k p : Word) (v : Byte), s.mem.wf = true →
    memRead (memWrite s k v) k = v ∧ (p ≠ k → memRead (memWrite s k v) p = memRead s p) ∧
    (memWrite s k v).mem.wf = true ∧ memWrite s k v = { s with mem := (memWrite s k v).mem }

/-- The word at p is M[p] + 256 * M[(p + 1) mod 65536]; the page-0 word at z is M[z] + 256 * M[(z + 1) mod 256].
[R46] -/
def Obligations.SixteenBitPointerReads : Prop :=
  ∀ (s : State),
    (∀ p : Word, (memRead16 s p).toNat
      = (s.mem.read p.toNat).toNat + 256 * (s.mem.read ((p.toNat + 1) % 65536)).toNat) ∧
    (∀ z : Byte, (memReadZp16 s z).toNat
      = (s.mem.read z.toNat).toNat + 256 * (s.mem.read ((z.toNat + 1) % 256)).toNat)

/-- A push writes 0x0100 + S and decrements S modulo 256, a pull increments S modulo 256 and reads there, neither
changes a flag or another register, a pull after a push gives the value and S back, and a 16-bit push leaves the
high byte at the old stack address and the low byte below it. [R50] -/
def Obligations.StackPushAndPull : Prop :=
  ∀ (s : State) (v : Byte) (w : Word), s.mem.wf = true →
    push v s = { s with sp := BitVec.ofNat 8 (s.sp.toNat + 255), mem := s.mem.write (stackAt s 0) v } ∧
    pulled s = s.mem.read (stackAt s 1) ∧ afterPull s = { s with sp := BitVec.ofNat 8 (s.sp.toNat + 1) } ∧
    pulled (push v s) = v ∧ (afterPull (push v s)).sp = s.sp ∧
    pulledWord (pushWord w s) = w ∧ (afterPullWord (pushWord w s)).sp = s.sp ∧
    (pushWord w s).mem.read (stackAt s 0) = BitVec.ofNat 8 (w.toNat / 256) ∧
    (pushWord w s).mem.read (stackAt s 255) = BitVec.ofNat 8 w.toNat

/-- Bits 0 to 7 of the packed byte are C, Z, I, D, B, P_BIT5, V and N; unpacking a packed record gives it back;
packing an unpacked byte gives the byte with bit 5 replaced by P_BIT5. [R19] -/
def Obligations.PackAndUnpackOfP : Prop :=
  (∀ f : Flags, f.pack.getLsbD 0 = f.c ∧ f.pack.getLsbD 1 = f.z ∧ f.pack.getLsbD 2 = f.i ∧ f.pack.getLsbD 3 = f.d ∧
    f.pack.getLsbD 4 = f.b ∧ f.pack.getLsbD 5 = pBit5 ∧ f.pack.getLsbD 6 = f.v ∧ f.pack.getLsbD 7 = f.n) ∧
  (∀ f : Flags, Flags.unpack f.pack = f) ∧
  (∀ p : Byte, (Flags.unpack p).pack = (p &&& 0xDF) ||| (if pBit5 then 0x20 else 0x00))

/-- For ZeroPage, ZeroPageX, ZeroPageY, Absolute, AbsoluteX, AbsoluteY, ZeroPageIndirect, ZeroPageXIndirect and
ZeroPageIndirectY: the address as a number, with its wrap-around, the page-cross flag, and the operand bytes
consumed. An immediate operand reads as its byte, the accumulator as A, an address operand as the byte there; the
result of a read-modify-write goes to A or to that byte, and Z and N are derived from it. [41_addressing.md R100 to
R111, R113 to R115, 40_pipeline.md R87] -/
def Obligations.OperandsOfEveryMode : Prop :=
  ∀ (s : State) (b b1 b2 v : Byte),
    let w : Nat := b1.toNat + 256 * b2.toNat
    let z (k : Nat) : Nat := (s.mem.read (k % 256)).toNat + 256 * (s.mem.read ((k + 1) % 256)).toNat
    let plain (ea : Ea) (n : Nat) : Prop := resolveEa ea s = { addr := BitVec.ofNat 16 n, crossed := false }
    let indexed (ea : Ea) (base index : Nat) : Prop :=
      resolveEa ea s
        = { addr := BitVec.ofNat 16 ((base + index) % 65536),
            crossed := decide ((base + index) % 65536 / 256 ≠ base / 256) }
    plain (.zp b) b.toNat ∧ Ea.bytes (.zp b) = [b] ∧
    plain (.zpX b) ((b.toNat + s.x.toNat) % 256) ∧ Ea.bytes (.zpX b) = [b] ∧
    plain (.zpY b) ((b.toNat + s.y.toNat) % 256) ∧ Ea.bytes (.zpY b) = [b] ∧
    plain (.abs (joinBytes b1 b2)) w ∧ Ea.bytes (.abs (joinBytes b1 b2)) = [b1, b2] ∧
    indexed (.absX (joinBytes b1 b2)) w s.x.toNat ∧ Ea.bytes (.absX (joinBytes b1 b2)) = [b1, b2] ∧
    indexed (.absY (joinBytes b1 b2)) w s.y.toNat ∧ Ea.bytes (.absY (joinBytes b1 b2)) = [b1, b2] ∧
    plain (.zpInd b) (z b.toNat) ∧ Ea.bytes (.zpInd b) = [b] ∧
    plain (.zpXInd b) (z (b.toNat + s.x.toNat)) ∧ Ea.bytes (.zpXInd b) = [b] ∧
    indexed (.zpIndY b) (z b.toNat) s.y.toNat ∧ Ea.bytes (.zpIndY b) = [b] ∧
    readSrc (.imm b) s = { value := b, crossed := false } ∧
    readRmw .acc s = { value := s.a, crossed := false } ∧
    writeRmw .acc v s = { s with a := v, flags := znOf s.flags v } ∧
    ∀ ea : Ea,
      readSrc (.mem ea) s = { value := s.mem.read (resolveEa ea s).addr.toNat, crossed := (resolveEa ea s).crossed } ∧
      readRmw (.mem ea) s = { value := s.mem.read (resolveEa ea s).addr.toNat, crossed := (resolveEa ea s).crossed } ∧
      writeRmw (.mem ea) v s
        = { s with mem := s.mem.write (resolveEa ea s).addr.toNat v, flags := znOf s.flags v }

/-- From every state and for every operand form, LDA, LDX and LDY write the operand to their register, Z and N from
it, and nothing else but PC_next, the cycles (one extra on a page cross) and the outcome; each has exactly the
opcodes its rule lists. [R130, R131, R132] -/
def Obligations.LoadsSetRegisterAndZN : Prop :=
  ∀ (s : State) (op : Src),
    let v := (readSrc op s).value
    let extra := crossCost (readSrc op s).crossed
    exec (.lda op) s = .next { after (.lda op) extra s with a := v, flags := znOf s.flags v } ∧
    exec (.ldx op) s = .next { after (.ldx op) extra s with x := v, flags := znOf s.flags v } ∧
    exec (.ldy op) s = .next { after (.ldy op) extra s with y := v, flags := znOf s.flags v } ∧
    Rows (.lda op) [(.zeroPageXIndirect, 0xA1), (.zeroPage, 0xA5), (.immediate, 0xA9), (.absolute, 0xAD),
            (.zeroPageIndirectY, 0xB1), (.zeroPageIndirect, 0xB2), (.zeroPageX, 0xB5), (.absoluteY, 0xB9),
            (.absoluteX, 0xBD)] ∧
    Rows (.ldx op) [(.immediate, 0xA2), (.zeroPage, 0xA6), (.absolute, 0xAE), (.zeroPageY, 0xB6),
            (.absoluteY, 0xBE)] ∧
    Rows (.ldy op) [(.immediate, 0xA0), (.zeroPage, 0xA4), (.absolute, 0xAC), (.zeroPageX, 0xB4),
            (.absoluteX, 0xBC)]

/-- Each store writes its register (or 0x00) at the effective address its operand resolves to, every other address
reads as before, no register or flag changes, no page-cross cycle is added; each has exactly the opcodes its rule
lists; the indexed forms of STA cost 5, 5 and 6 and STZ abs,X costs 5. [42_load_store_transfer.md §2 (R133 to R136),
20_memory.md R44, 92_eei_decisions.md D7] -/
def Obligations.StoresWriteOneByteAndNoFlag : Prop :=
  ∀ (s : State) (ea : Ea),
    exec (.sta ea) s
      = .next { after (.sta ea) 0 s with mem := s.mem.write (resolveEa ea s).addr.toNat s.a } ∧
    exec (.stx ea) s
      = .next { after (.stx ea) 0 s with mem := s.mem.write (resolveEa ea s).addr.toNat s.x } ∧
    exec (.sty ea) s
      = .next { after (.sty ea) 0 s with mem := s.mem.write (resolveEa ea s).addr.toNat s.y } ∧
    exec (.stz ea) s
      = .next { after (.stz ea) 0 s with mem := s.mem.write (resolveEa ea s).addr.toNat 0x00 } ∧
    (∀ (i : Instr) (t : State), i ∈ [.sta ea, .stx ea, .sty ea, .stz ea] → exec i s = .next t →
      ∀ p : Word, p ≠ (resolveEa ea s).addr → memRead t p = memRead s p) ∧
    Rows (.sta ea) [(.zeroPageXIndirect, 0x81), (.zeroPage, 0x85), (.absolute, 0x8D), (.zeroPageIndirectY, 0x91),
            (.zeroPageIndirect, 0x92), (.zeroPageX, 0x95), (.absoluteY, 0x99), (.absoluteX, 0x9D)] ∧
    Rows (.stx ea) [(.zeroPage, 0x86), (.absolute, 0x8E), (.zeroPageY, 0x96)] ∧
    Rows (.sty ea) [(.zeroPage, 0x84), (.absolute, 0x8C), (.zeroPageX, 0x94)] ∧
    Rows (.stz ea) [(.zeroPage, 0x64), (.zeroPageX, 0x74), (.absolute, 0x9C), (.absoluteX, 0x9E)] ∧
    ∀ (p : Params) (w : Word) (b : Byte),
      ((Instr.sta (.absX w)).baseCycles p, (Instr.sta (.absY w)).baseCycles p, (Instr.sta (.zpIndY b)).baseCycles p,
        (Instr.stz (.absX w)).baseCycles p) = (5, 5, 6, 5)

/-- TAX, TAY, TXA, TYA and TSX copy their source register and derive Z and N; TXS copies X to S and changes no flag;
nothing else changes but PC_next, the cycles and the outcome; each has its opcode. [R137, R138, R139, R140, R141,
R142] -/
def Obligations.TransfersCopyRegisters : Prop :=
  ∀ (s : State),
    exec .tax s = .next { after .tax 0 s with x := s.a, flags := znOf s.flags s.a } ∧
    exec .tay s = .next { after .tay 0 s with y := s.a, flags := znOf s.flags s.a } ∧
    exec .txa s = .next { after .txa 0 s with a := s.x, flags := znOf s.flags s.x } ∧
    exec .tya s = .next { after .tya 0 s with a := s.y, flags := znOf s.flags s.y } ∧
    exec .tsx s = .next { after .tsx 0 s with x := s.sp, flags := znOf s.flags s.sp } ∧
    exec .txs s = .next { after .txs 0 s with sp := s.x } ∧
    Rows .tax [(.implied, 0xAA)] ∧
    Rows .tay [(.implied, 0xA8)] ∧
    Rows .txa [(.implied, 0x8A)] ∧
    Rows .tya [(.implied, 0x98)] ∧
    Rows .tsx [(.implied, 0xBA)] ∧
    Rows .txs [(.implied, 0x9A)]

/-- PHA, PHX and PHY store their register at 0x0100 + S and decrement S modulo 256, and no flag and no other byte
changes; PLA, PLX and PLY increment S modulo 256 and load their register from 0x0100 + S, with Z and N from the
value; nothing else changes but PC_next, the cycles and the outcome; each has its opcode; a push costs 3 and a pull
4. [42_load_store_transfer.md §4 (R143 to R145, R147 to R149), 20_memory.md R50, 92_eei_decisions.md D7] -/
def Obligations.RegisterPushesAndPulls : Prop :=
  ∀ (s : State),
    let v := s.mem.read (stackAt s 1)
    let sp' : Byte := BitVec.ofNat 8 (s.sp.toNat + 1)
    exec .pha s = .next { after .pha 0 s with sp := BitVec.ofNat 8 (s.sp.toNat + 255), mem := s.mem.write (256 + s.sp.toNat) s.a } ∧
    exec .phx s = .next { after .phx 0 s with sp := BitVec.ofNat 8 (s.sp.toNat + 255), mem := s.mem.write (256 + s.sp.toNat) s.x } ∧
    exec .phy s = .next { after .phy 0 s with sp := BitVec.ofNat 8 (s.sp.toNat + 255), mem := s.mem.write (256 + s.sp.toNat) s.y } ∧
    (∀ (i : Instr) (t : State), i ∈ [.pha, .phx, .phy] → exec i s = .next t →
      ∀ p : Word, p.toNat ≠ 256 + s.sp.toNat → memRead t p = memRead s p) ∧
    exec .pla s = .next { after .pla 0 s with a := v, sp := sp', flags := znOf s.flags v } ∧
    exec .plx s = .next { after .plx 0 s with x := v, sp := sp', flags := znOf s.flags v } ∧
    exec .ply s = .next { after .ply 0 s with y := v, sp := sp', flags := znOf s.flags v } ∧
    Rows .pha [(.implied, 0x48)] ∧
    Rows .phx [(.implied, 0xDA)] ∧
    Rows .phy [(.implied, 0x5A)] ∧
    Rows .pla [(.implied, 0x68)] ∧
    Rows .plx [(.implied, 0xFA)] ∧
    Rows .ply [(.implied, 0x7A)] ∧
    ∀ p : Params, (∀ i ∈ [Instr.pha, .phx, .phy], i.baseCycles p = 3) ∧ ∀ i ∈ [Instr.pla, .plx, .ply], i.baseCycles p = 4

/-- PHP pushes the packed P with bits 4 and 5 set and changes no flag; PLP pulls a byte and loads every flag from
it, B from bit 4, with no re-derivation of Z and N. Bit 4 pushed as 1 and B loaded from bit 4 are the decision D8 of
the spec. [42_load_store_transfer.md §4 (R146, R150), 92_eei_decisions.md D8] -/
def Obligations.StatusPushAndPull : Prop :=
  ∀ (s : State),
    let v := s.mem.read (stackAt s 1)
    exec .php s = .next { after .php 0 s with sp := BitVec.ofNat 8 (s.sp.toNat + 255), mem := s.mem.write (256 + s.sp.toNat) (s.flags.pack ||| 0x30) } ∧
    exec .plp s = .next
      { after .plp 0 s with
        sp := BitVec.ofNat 8 (s.sp.toNat + 1),
        flags := { c := v.toNat % 2 = 1, z := v.toNat / 2 % 2 = 1, i := v.toNat / 4 % 2 = 1, d := v.toNat / 8 % 2 = 1,
                   b := v.toNat / 16 % 2 = 1, v := v.toNat / 64 % 2 = 1, n := 128 ≤ v.toNat } } ∧
    (∀ t, exec .php s = .next t → ∀ p : Word, p.toNat ≠ 256 + s.sp.toNat → memRead t p = memRead s p) ∧
    Rows .php [(.implied, 0x08)] ∧
    Rows .plp [(.implied, 0x28)]

/-- ADC from every state and for every operand form: the binary sum modulo 256 or the nibble-corrected decimal sum,
C from it, V from the sign bits of A, the operand and the final result in both modes, Z and N from the result, one
extra cycle in decimal mode and one on a page cross; nothing else changes. The spec follows its source on V in
decimal mode (C9, D17). [43_alu.md §2 (R170), 90_conflicts.md C9, 92_eei_decisions.md D17] -/
def Obligations.AdcFollowsItsPseudocode : Prop :=
  ∀ (s : State) (op : Src),
    let r := readSrc op s
    let a := s.a.toNat
    let m := r.value.toNat
    let c := s.flags.c.toNat
    let lo := if 9 < a % 16 + m % 16 + c then a % 16 + m % 16 + c + 6 else a % 16 + m % 16 + c
    let h := a / 16 + m / 16 + (if 15 < lo then 1 else 0)
    let hi := if 9 < h then h + 6 else h
    let result : Nat := if s.flags.d then hi % 16 * 16 + lo % 16 else (a + m + c) % 256
    let carry : Bool := if s.flags.d then decide (15 < hi) else decide (255 < a + m + c)
    let overflow : Bool := decide ((128 ≤ a ↔ 128 ≤ m) ∧ ¬(128 ≤ a ↔ 128 ≤ result))
    exec (.adc op) s = .next
      { after (.adc op) ((if s.flags.d then 1 else 0) + crossCost r.crossed) s with
        a := BitVec.ofNat 8 result,
        flags := znOf { s.flags with c := carry, v := overflow } (BitVec.ofNat 8 result) } ∧
    Rows (.adc op) [(.zeroPageXIndirect, 0x61), (.zeroPage, 0x65), (.immediate, 0x69), (.absolute, 0x6D),
            (.zeroPageIndirectY, 0x71), (.zeroPageIndirect, 0x72), (.zeroPageX, 0x75), (.absoluteY, 0x79),
            (.absoluteX, 0x7D)]

/-- In binary mode A and C together hold the exact unsigned sum and V tells that the signed sum leaves -128..127; in
decimal mode, on operands that are decimal numbers, A is a decimal number and with C as the hundreds it is the exact
sum. [43_alu.md R169, R170, 10_state.md R22, R24] -/
def Obligations.AdcAddsExactly : Prop :=
  ∀ (s : State) (op : Src),
    let m := (readSrc op s).value
    ∃ t, exec (.adc op) s = .next t ∧
      (s.flags.d = false →
        t.a.toNat + 256 * t.flags.c.toNat = s.a.toNat + m.toNat + s.flags.c.toNat ∧
        (t.flags.v = true ↔
          s.a.toInt + m.toInt + s.flags.c.toNat < -128 ∨ 127 < s.a.toInt + m.toInt + s.flags.c.toNat)) ∧
      (s.flags.d = true → isBcd s.a → isBcd m →
        isBcd t.a ∧ bcdValue t.a + 100 * t.flags.c.toNat = bcdValue s.a + bcdValue m + s.flags.c.toNat)

/-- SBC from every state and for every operand form: the difference modulo 256 or the decimal-corrected value, C (no
borrow) and V from the binary difference in both modes, Z and N from the result, one extra cycle in decimal mode and
one on a page cross; nothing else changes. The decimal part is the decision D18 of the spec. [43_alu.md §2 (R171),
92_eei_decisions.md D18] -/
def Obligations.SbcFollowsItsPseudocode : Prop :=
  ∀ (s : State) (op : Src),
    let r := readSrc op s
    let a : Int := s.a.toNat
    let m : Int := r.value.toNat
    let c : Int := s.flags.c.toNat
    let diff : Int := a - m - (1 - c)
    let bin : Int := diff % 256
    let t : Int := diff - (if diff < 0 then 0x60 else 0) - (if a % 16 - m % 16 + c - 1 < 0 then 0x06 else 0)
    let result : Byte := BitVec.ofInt 8 (if s.flags.d then t else diff)
    exec (.sbc op) s = .next
      { after (.sbc op) ((if s.flags.d then 1 else 0) + crossCost r.crossed) s with
        a := result,
        flags := znOf
          { s.flags with
            c := decide (0 ≤ diff),
            v := decide (¬(128 ≤ a ↔ 128 ≤ m) ∧ ¬(128 ≤ a ↔ 128 ≤ bin)) } result } ∧
    Rows (.sbc op) [(.zeroPageXIndirect, 0xE1), (.zeroPage, 0xE5), (.immediate, 0xE9), (.absolute, 0xED),
            (.zeroPageIndirectY, 0xF1), (.zeroPageIndirect, 0xF2), (.zeroPageX, 0xF5), (.absoluteY, 0xF9),
            (.absoluteX, 0xFD)]

/-- C is 1 exactly when there is no unsigned borrow and V tells that the signed difference leaves -128..127, in both
modes; in binary mode A is the difference, 256 higher on a borrow; in decimal mode, on decimal numbers, A is the
decimal difference, 100 higher on a borrow. The decimal part is the decision D18 of the spec. [43_alu.md R169 and §2
(R171), 10_state.md R24, 92_eei_decisions.md D18] -/
def Obligations.SbcSubtractsExactly : Prop :=
  ∀ (s : State) (op : Src),
    let m := (readSrc op s).value
    let borrow : Int := 1 - s.flags.c.toNat
    ∃ t, exec (.sbc op) s = .next t ∧
      (t.flags.c = true ↔ (m.toNat : Int) + borrow ≤ s.a.toNat) ∧
      (t.flags.v = true ↔ s.a.toInt - m.toInt - borrow < -128 ∨ 127 < s.a.toInt - m.toInt - borrow) ∧
      (s.flags.d = false → (t.a.toNat : Int) = s.a.toNat - m.toNat - borrow + 256 * (1 - t.flags.c.toNat)) ∧
      (s.flags.d = true → isBcd s.a → isBcd m →
        isBcd t.a ∧ (bcdValue t.a : Int) = bcdValue s.a - bcdValue m - borrow + 100 * (1 - t.flags.c.toNat))

/-- AND, ORA and EOR combine A with the operand bit by bit, derive Z and N from the result, add one cycle on a page
cross and change nothing else; each has exactly the opcodes its rule lists. [43_alu.md §3 (R172 to R174),
92_eei_decisions.md D19] -/
def Obligations.LogicCombinesAWithTheOperand : Prop :=
  ∀ (s : State) (op : Src),
    let v := (readSrc op s).value
    let extra := crossCost (readSrc op s).crossed
    exec (.and op) s = .next { after (.and op) extra s with a := s.a &&& v, flags := znOf s.flags (s.a &&& v) } ∧
    exec (.ora op) s = .next { after (.ora op) extra s with a := s.a ||| v, flags := znOf s.flags (s.a ||| v) } ∧
    exec (.eor op) s = .next { after (.eor op) extra s with a := s.a ^^^ v, flags := znOf s.flags (s.a ^^^ v) } ∧
    Rows (.and op) [(.zeroPageXIndirect, 0x21), (.zeroPage, 0x25), (.immediate, 0x29), (.absolute, 0x2D),
            (.zeroPageIndirectY, 0x31), (.zeroPageIndirect, 0x32), (.zeroPageX, 0x35), (.absoluteY, 0x39),
            (.absoluteX, 0x3D)] ∧
    Rows (.ora op) [(.zeroPageXIndirect, 0x01), (.zeroPage, 0x05), (.immediate, 0x09), (.absolute, 0x0D),
            (.zeroPageIndirectY, 0x11), (.zeroPageIndirect, 0x12), (.zeroPageX, 0x15), (.absoluteY, 0x19),
            (.absoluteX, 0x1D)] ∧
    Rows (.eor op) [(.zeroPageXIndirect, 0x41), (.zeroPage, 0x45), (.immediate, 0x49), (.absolute, 0x4D),
            (.zeroPageIndirectY, 0x51), (.zeroPageIndirect, 0x52), (.zeroPageX, 0x55), (.absoluteY, 0x59),
            (.absoluteX, 0x5D)]

/-- A compare sets C when the register is at least the operand (unsigned), Z when they are equal and N from bit 7 of
the difference modulo 256, whatever D holds; V, the registers and memory are unchanged; each has exactly the opcodes
its rule lists. [43_alu.md §4 (R175 to R177), 92_eei_decisions.md D19] -/
def Obligations.ComparesSetCarryZeroNegative : Prop :=
  ∀ (s : State) (op : Src),
    let v := (readSrc op s).value
    let extra := crossCost (readSrc op s).crossed
    let compared (r : Byte) : Flags :=
      { s.flags with
        c := decide (v.toNat ≤ r.toNat),
        z := decide (r.toNat = v.toNat),
        n := decide (128 ≤ (r.toNat + 256 - v.toNat) % 256) }
    exec (.cmp op) s = .next { after (.cmp op) extra s with flags := compared s.a } ∧
    exec (.cpx op) s = .next { after (.cpx op) extra s with flags := compared s.x } ∧
    exec (.cpy op) s = .next { after (.cpy op) extra s with flags := compared s.y } ∧
    Rows (.cmp op) [(.zeroPageXIndirect, 0xC1), (.zeroPage, 0xC5), (.immediate, 0xC9), (.absolute, 0xCD),
            (.zeroPageIndirectY, 0xD1), (.zeroPageIndirect, 0xD2), (.zeroPageX, 0xD5), (.absoluteY, 0xD9),
            (.absoluteX, 0xDD)] ∧
    Rows (.cpx op) [(.immediate, 0xE0), (.zeroPage, 0xE4), (.absolute, 0xEC)] ∧
    Rows (.cpy op) [(.immediate, 0xC0), (.zeroPage, 0xC4), (.absolute, 0xCC)]

/-- BIT sets Z when A and the operand share no bit; the memory forms copy bits 7 and 6 of the operand to N and V,
the immediate form leaves N and V; A and memory are unchanged; it has exactly the opcodes its rule lists. [43_alu.md
§5 (R178), 92_eei_decisions.md D19] -/
def Obligations.BitTestSetsZeroAndCopiesNV : Prop :=
  ∀ (s : State),
    (∀ b : Byte, exec (.bit (.imm b)) s = .next
      { after (.bit (.imm b)) 0 s with flags := { s.flags with z := decide (s.a &&& b = 0) } }) ∧
    (∀ ea : Ea,
      let v := s.mem.read (resolveEa ea s).addr.toNat
      exec (.bit (.mem ea)) s = .next
        { after (.bit (.mem ea)) (crossCost (resolveEa ea s).crossed) s with
          flags := { s.flags with
            z := decide (s.a &&& v = 0), n := decide (128 ≤ v.toNat), v := decide (64 ≤ v.toNat % 128) } }) ∧
    ∀ op : Src,
      Rows (.bit op) [(.zeroPage, 0x24), (.absolute, 0x2C), (.zeroPageX, 0x34), (.absoluteX, 0x3C),
              (.immediate, 0x89)]

/-- TSB and TRB set Z when A and the old byte share no bit, then write the byte with the bits of A set (TSB) or
cleared (TRB); N, V and every other byte are unchanged; each has exactly the opcodes its rule lists. [R179, R180] -/
def Obligations.TestAndSetResetBits : Prop :=
  ∀ (s : State) (ea : Ea),
    let addr := (resolveEa ea s).addr.toNat
    let m := s.mem.read addr
    exec (.tsb ea) s = .next
      { after (.tsb ea) 0 s with
        flags := { s.flags with z := decide (s.a &&& m = 0) }, mem := s.mem.write addr (m ||| s.a) } ∧
    exec (.trb ea) s = .next
      { after (.trb ea) 0 s with
        flags := { s.flags with z := decide (s.a &&& m = 0) }, mem := s.mem.write addr (m &&& ~~~s.a) } ∧
    (∀ (i : Instr) (t : State), i ∈ [.tsb ea, .trb ea] → exec i s = .next t →
      ∀ p : Word, p ≠ (resolveEa ea s).addr → memRead t p = memRead s p) ∧
    Rows (.tsb ea) [(.zeroPage, 0x04), (.absolute, 0x0C)] ∧
    Rows (.trb ea) [(.zeroPage, 0x14), (.absolute, 0x1C)]

/-- The increments and decrements change A, X, Y or one byte of memory by one modulo 256, derive Z and N from the
result, leave C and V, and take no page-cross cycle; each has exactly the opcodes its rule lists; INC and DEC abs,X
cost 7. [43_alu.md §6 (R181 to R186), 92_eei_decisions.md D7] -/
def Obligations.IncrementsAndDecrementsWrap : Prop :=
  ∀ (s : State) (ea : Ea),
    let addr := (resolveEa ea s).addr.toNat
    let m := (s.mem.read addr).toNat
    exec (.inc .acc) s = .next
      { after (.inc .acc) 0 s with
        a := BitVec.ofNat 8 (s.a.toNat + 1), flags := znOf s.flags (BitVec.ofNat 8 (s.a.toNat + 1)) } ∧
    exec (.inc (.mem ea)) s = .next
      { after (.inc (.mem ea)) 0 s with
        mem := s.mem.write addr (BitVec.ofNat 8 (m + 1)), flags := znOf s.flags (BitVec.ofNat 8 (m + 1)) } ∧
    exec (.dec .acc) s = .next
      { after (.dec .acc) 0 s with
        a := BitVec.ofNat 8 (s.a.toNat + 255), flags := znOf s.flags (BitVec.ofNat 8 (s.a.toNat + 255)) } ∧
    exec (.dec (.mem ea)) s = .next
      { after (.dec (.mem ea)) 0 s with
        mem := s.mem.write addr (BitVec.ofNat 8 (m + 255)), flags := znOf s.flags (BitVec.ofNat 8 (m + 255)) } ∧
    exec .inx s = .next { after .inx 0 s with x := BitVec.ofNat 8 (s.x.toNat + 1), flags := znOf s.flags (BitVec.ofNat 8 (s.x.toNat + 1)) } ∧
    exec .iny s = .next { after .iny 0 s with y := BitVec.ofNat 8 (s.y.toNat + 1), flags := znOf s.flags (BitVec.ofNat 8 (s.y.toNat + 1)) } ∧
    exec .dex s = .next { after .dex 0 s with x := BitVec.ofNat 8 (s.x.toNat + 255), flags := znOf s.flags (BitVec.ofNat 8 (s.x.toNat + 255)) } ∧
    exec .dey s = .next { after .dey 0 s with y := BitVec.ofNat 8 (s.y.toNat + 255), flags := znOf s.flags (BitVec.ofNat 8 (s.y.toNat + 255)) } ∧
    (∀ (i : Instr) (t : State), i ∈ [.inc (.mem ea), .dec (.mem ea)] → exec i s = .next t →
      ∀ p : Word, p ≠ (resolveEa ea s).addr → memRead t p = memRead s p) ∧
    (∀ op : Rmw,
      Rows (.inc op) [(.accumulator, 0x1A), (.zeroPage, 0xE6), (.absolute, 0xEE), (.zeroPageX, 0xF6),
              (.absoluteX, 0xFE)] ∧
      Rows (.dec op) [(.accumulator, 0x3A), (.zeroPage, 0xC6), (.absolute, 0xCE), (.zeroPageX, 0xD6),
              (.absoluteX, 0xDE)] ∧
      Rows .inx [(.implied, 0xE8)] ∧
      Rows .iny [(.implied, 0xC8)] ∧
      Rows .dex [(.implied, 0xCA)] ∧
      Rows .dey [(.implied, 0x88)]) ∧
    ∀ (p : Params) (w : Word), ((Instr.inc (.mem (.absX w))).baseCycles p, (Instr.dec (.mem (.absX w))).baseCycles p) = (7, 7)

/-- Each shift and rotate, on A and on a byte of memory: the new value as a number modulo 256, C the bit shifted
out, Z and N from the new value, one extra cycle on a page cross of a memory form; every other byte and register is
unchanged; each has exactly the opcodes its rule lists; the abs,X forms cost 6 before that cycle.
[44_shift_bitops.md §1 (R210 to R213), 92_eei_decisions.md D7, D19] -/
def Obligations.ShiftsAndRotates : Prop :=
  ∀ (s : State) (ea : Ea),
    let addr := (resolveEa ea s).addr.toNat
    let m := (s.mem.read addr).toNat
    let c := s.flags.c.toNat
    exec (.asl .acc) s = .next
      { after (.asl .acc) 0 s with
        a := BitVec.ofNat 8 (2 * s.a.toNat),
        flags := znOf { s.flags with c := decide (128 ≤ s.a.toNat) } (BitVec.ofNat 8 (2 * s.a.toNat)) } ∧
    exec (.asl (.mem ea)) s = .next
      { after (.asl (.mem ea)) (crossCost (resolveEa ea s).crossed) s with
        mem := s.mem.write addr (BitVec.ofNat 8 (2 * m)),
        flags := znOf { s.flags with c := decide (128 ≤ m) } (BitVec.ofNat 8 (2 * m)) } ∧
    exec (.lsr .acc) s = .next
      { after (.lsr .acc) 0 s with
        a := BitVec.ofNat 8 (s.a.toNat / 2),
        flags := znOf { s.flags with c := decide (s.a.toNat % 2 = 1) } (BitVec.ofNat 8 (s.a.toNat / 2)) } ∧
    exec (.lsr (.mem ea)) s = .next
      { after (.lsr (.mem ea)) (crossCost (resolveEa ea s).crossed) s with
        mem := s.mem.write addr (BitVec.ofNat 8 (m / 2)),
        flags := znOf { s.flags with c := decide (m % 2 = 1) } (BitVec.ofNat 8 (m / 2)) } ∧
    exec (.rol .acc) s = .next
      { after (.rol .acc) 0 s with
        a := BitVec.ofNat 8 (2 * s.a.toNat + c),
        flags := znOf { s.flags with c := decide (128 ≤ s.a.toNat) } (BitVec.ofNat 8 (2 * s.a.toNat + c)) } ∧
    exec (.rol (.mem ea)) s = .next
      { after (.rol (.mem ea)) (crossCost (resolveEa ea s).crossed) s with
        mem := s.mem.write addr (BitVec.ofNat 8 (2 * m + c)),
        flags := znOf { s.flags with c := decide (128 ≤ m) } (BitVec.ofNat 8 (2 * m + c)) } ∧
    exec (.ror .acc) s = .next
      { after (.ror .acc) 0 s with
        a := BitVec.ofNat 8 (s.a.toNat / 2 + 128 * c),
        flags := znOf { s.flags with c := decide (s.a.toNat % 2 = 1) } (BitVec.ofNat 8 (s.a.toNat / 2 + 128 * c)) } ∧
    exec (.ror (.mem ea)) s = .next
      { after (.ror (.mem ea)) (crossCost (resolveEa ea s).crossed) s with
        mem := s.mem.write addr (BitVec.ofNat 8 (m / 2 + 128 * c)),
        flags := znOf { s.flags with c := decide (m % 2 = 1) } (BitVec.ofNat 8 (m / 2 + 128 * c)) } ∧
    (∀ (i : Instr) (t : State), i ∈ [.asl (.mem ea), .lsr (.mem ea), .rol (.mem ea), .ror (.mem ea)] → exec i s = .next t →
      ∀ p : Word, p ≠ (resolveEa ea s).addr → memRead t p = memRead s p) ∧
    (∀ op : Rmw,
      Rows (.asl op) [(.zeroPage, 0x06), (.accumulator, 0x0A), (.absolute, 0x0E), (.zeroPageX, 0x16),
              (.absoluteX, 0x1E)] ∧
      Rows (.lsr op) [(.zeroPage, 0x46), (.accumulator, 0x4A), (.absolute, 0x4E), (.zeroPageX, 0x56),
              (.absoluteX, 0x5E)] ∧
      Rows (.rol op) [(.zeroPage, 0x26), (.accumulator, 0x2A), (.absolute, 0x2E), (.zeroPageX, 0x36),
              (.absoluteX, 0x3E)] ∧
      Rows (.ror op) [(.zeroPage, 0x66), (.accumulator, 0x6A), (.absolute, 0x6E), (.zeroPageX, 0x76),
              (.absoluteX, 0x7E)]) ∧
    ∀ (p : Params) (w : Word), ∀ k ∈ [Instr.asl, Instr.lsr, Instr.rol, Instr.ror], (k (.mem (.absX w))).baseCycles p = 6

/-- For every bit number, RMBb clears and SMBb sets bit b of the byte at its zero-page address and leaves its other
bits; no flag, register or other byte changes; the cost is 5 and the opcodes are 0x07 + 0x10*b and 0x87 + 0x10*b.
[44_shift_bitops.md §2 (R214, R215), 92_eei_decisions.md D7] -/
def Obligations.ZeroPageBitResetAndSet : Prop :=
  ∀ (s : State) (zp8 : Byte) (b : Nat), b < 8 →
    let m := s.mem.read zp8.toNat
    (∃ r : Byte, exec (rmb b zp8) s = .next { after (rmb b zp8) 0 s with mem := s.mem.write zp8.toNat r } ∧
      ∀ k < 8, r.getLsbD k = if k = b then false else m.getLsbD k) ∧
    (∃ r : Byte, exec (smb b zp8) s = .next { after (smb b zp8) 0 s with mem := s.mem.write zp8.toNat r } ∧
      ∀ k < 8, r.getLsbD k = if k = b then true else m.getLsbD k) ∧
    (∀ (i : Instr) (t : State), i ∈ [rmb b zp8, smb b zp8] → exec i s = .next t →
      ∀ p : Word, p ≠ zext16 zp8 → memRead t p = memRead s p) ∧
    Rows (rmb b zp8) [(.zeroPage, BitVec.ofNat 8 (0x07 + 0x10 * b))] ∧
    Rows (smb b zp8) [(.zeroPage, BitVec.ofNat 8 (0x87 + 0x10 * b))] ∧
    ∀ p : Params, (rmb b zp8).baseCycles p = 5 ∧ (smb b zp8).baseCycles p = 5

/-- Each branch is taken exactly on its flag condition (BRA always): PC becomes PC_next plus the signed displacement
modulo 65536 with 1 extra cycle, or 2 into another page than PC_next's; not taken, PC is PC_next with no extra
cycle; nothing else changes; the base cost is 2. The base cost and the page compared with PC_next are the decisions
D7 and D20 of the spec. [45_control.md §1, §2 (R230, R232 to R240), 41_addressing.md R112, 30_encoding.md R66,
92_eei_decisions.md D7, D20] -/
def Obligations.BranchesTestTheirFlag : Prop :=
  ∀ (s : State) (rel8 : Byte),
    BranchEnds (.bcc rel8) rel8 (decide (s.flags.c = false)) s ∧
    BranchEnds (.bcs rel8) rel8 (decide (s.flags.c = true)) s ∧
    BranchEnds (.beq rel8) rel8 (decide (s.flags.z = true)) s ∧
    BranchEnds (.bne rel8) rel8 (decide (s.flags.z = false)) s ∧
    BranchEnds (.bmi rel8) rel8 (decide (s.flags.n = true)) s ∧
    BranchEnds (.bpl rel8) rel8 (decide (s.flags.n = false)) s ∧
    BranchEnds (.bvc rel8) rel8 (decide (s.flags.v = false)) s ∧
    BranchEnds (.bvs rel8) rel8 (decide (s.flags.v = true)) s ∧
    BranchEnds (.bra rel8) rel8 (decide (True)) s ∧
    Rows (.bcc rel8) [(.programCounterRelative, 0x90)] ∧
    Rows (.bcs rel8) [(.programCounterRelative, 0xB0)] ∧
    Rows (.beq rel8) [(.programCounterRelative, 0xF0)] ∧
    Rows (.bne rel8) [(.programCounterRelative, 0xD0)] ∧
    Rows (.bmi rel8) [(.programCounterRelative, 0x30)] ∧
    Rows (.bpl rel8) [(.programCounterRelative, 0x10)] ∧
    Rows (.bvc rel8) [(.programCounterRelative, 0x50)] ∧
    Rows (.bvs rel8) [(.programCounterRelative, 0x70)] ∧
    Rows (.bra rel8) [(.programCounterRelative, 0x80)] ∧
    ∀ (p : Params), ∀ i ∈ [Instr.bcc rel8, .bcs rel8, .beq rel8, .bne rel8, .bmi rel8, .bpl rel8, .bvc rel8,
        .bvs rel8, .bra rel8], i.baseCycles p = 2

/-- For every bit number, BBRb branches when the bit is 0 and BBSb when it is 1, with the target relative to
PC_start + 3 and the branch penalty; memory and flags are unchanged. That the penalty's old PC is PC_next is the
decision D20 of the spec. [45_control.md §1, §3 (R231, R241, R242), 41_addressing.md R118, 92_eei_decisions.md D20] -/
def Obligations.BitBranchesTestTheirBit : Prop :=
  ∀ (s : State) (zp8 rel8 : Byte) (b : Nat), b < 8 →
    let v := s.mem.read zp8.toNat
    BranchEnds (bbr b zp8 rel8) rel8 (!v.getLsbD b) s ∧ BranchEnds (bbs b zp8 rel8) rel8 (v.getLsbD b) s ∧
    (bbr b zp8 rel8).length = 3 ∧ (bbs b zp8 rel8).length = 3 ∧
    Rows (bbr b zp8 rel8) [(.zeroPage, BitVec.ofNat 8 (0x0F + 0x10 * b))] ∧
    Rows (bbs b zp8 rel8) [(.zeroPage, BitVec.ofNat 8 (0x8F + 0x10 * b))] ∧
    ∀ p : Params, (bbr b zp8 rel8).baseCycles p = 5 ∧ (bbs b zp8 rel8).baseCycles p = 5

/-- JMP loads PC with its operand, with the word at its operand (the high byte from the next address modulo 65536,
also across a page), or with the word at its operand plus X modulo 65536; costs 3, 6 and 6; nothing else changes; it
has exactly the opcodes its rule lists. [45_control.md §4 (R243), 41_addressing.md R106, R116, R117,
92_eei_decisions.md D7] -/
def Obligations.JumpTargetsOfTheThreeForms : Prop :=
  ∀ (s : State) (w : Word),
    let at' (p : Nat) : Nat := (s.mem.read (p % 65536)).toNat + 256 * (s.mem.read ((p + 1) % 65536)).toNat
    exec (.jmp (.abs w)) s = .next { after (.jmp (.abs w)) 0 s with pc := w } ∧
    exec (.jmp (.ind w)) s = .next { after (.jmp (.ind w)) 0 s with pc := BitVec.ofNat 16 (at' w.toNat) } ∧
    exec (.jmp (.indX w)) s
      = .next { after (.jmp (.indX w)) 0 s with pc := BitVec.ofNat 16 (at' (w.toNat + s.x.toNat)) } ∧
    (∀ op : JmpOperand,
      Rows (.jmp op) [(.absolute, 0x4C), (.absoluteIndirect, 0x6C), (.absoluteXIndirect, 0x7C)]) ∧
    ∀ p : Params, (Instr.jmp (.abs w)).baseCycles p = 3 ∧ (Instr.jmp (.ind w)).baseCycles p = 6 ∧
      (Instr.jmp (.indX w)).baseCycles p = 6

/-- JSR pushes the address of its last byte, high byte first, and loads PC with its operand; RTS pulls the low and
then the high byte and loads PC with the word plus 1 modulo 65536; no flag changes and no byte but the two pushed
ones; each has its opcode and costs 6. [45_control.md §4 (R244, R245), 92_eei_decisions.md D7] -/
def Obligations.JsrPushesAndRtsReturns : Prop :=
  ∀ (s : State) (addr : Word),
    let ret := (s.pc.toNat + 2) % 65536
    exec (.jsr addr) s = .next
      { after (.jsr addr) 0 s with
        pc := addr,
        sp := BitVec.ofNat 8 (s.sp.toNat + 254),
        mem := (s.mem.write (stackAt s 0) (BitVec.ofNat 8 (ret / 256))).write (stackAt s 255) (BitVec.ofNat 8 ret) } ∧
    exec .rts s = .next
      { after .rts 0 s with
        pc := BitVec.ofNat 16
          ((s.mem.read (stackAt s 1)).toNat + 256 * (s.mem.read (stackAt s 2)).toNat + 1),
        sp := BitVec.ofNat 8 (s.sp.toNat + 2) } ∧
    (∀ t, exec (.jsr addr) s = .next t →
      ∀ p : Word, p.toNat ≠ stackAt s 0 → p.toNat ≠ stackAt s 255 → memRead t p = memRead s p) ∧
    Rows (.jsr addr) [(.absolute, 0x20)] ∧
    Rows .rts [(.implied, 0x60)] ∧
    ∀ p : Params, (Instr.jsr addr).baseCycles p = 6 ∧ Instr.rts.baseCycles p = 6

/-- In terminal mode BRK moves PC past its opcode, adds its 7 cycles and returns Finished, nothing else changes; in
vectored mode it pushes PC_start + 2 (high byte, then low byte) and P with bits 4 and 5 set, sets I, clears D and
loads PC from the vector at 0xFFFE, and continues. [45_control.md §4 (R247), 60_exceptions.md R293, R295,
92_eei_decisions.md D7, D8, D28] -/
def Obligations.BrkEndsTheRunOrEntersThroughTheVector : Prop :=
  ∀ (s : State),
    let ret := (s.pc.toNat + 2) % 65536
    let m := ((s.mem.write (stackAt s 0) (BitVec.ofNat 8 (ret / 256))).write (stackAt s 255) (BitVec.ofNat 8 ret)).write
      (stackAt s 254) (s.flags.pack ||| 0x30)
    (s.params.brkMode = .terminal → exec .brk s = .next { after .brk 0 s with outcome := .finished }) ∧
    (s.params.brkMode = .vectored → exec .brk s = .next
      { after .brk 0 s with
        pc := BitVec.ofNat 16 ((m.read 0xFFFE).toNat + 256 * (m.read 0xFFFF).toNat),
        sp := BitVec.ofNat 8 (s.sp.toNat + 253),
        mem := m,
        flags := { s.flags with i := true, d := false } }) ∧
    (∀ t, exec .brk s = .next t → ∀ p : Word,
      s.params.brkMode = .terminal ∨ (p.toNat ≠ stackAt s 0 ∧ p.toNat ≠ stackAt s 255 ∧ p.toNat ≠ stackAt s 254) →
      memRead t p = memRead s p) ∧
    Rows .brk [(.implied, 0x00)] ∧
    ∀ p : Params, Instr.brk.baseCycles p = 7

/-- RTI pulls P, then the low and the high byte of PC, and adds nothing to it; the registers and memory are
unchanged. That B is loaded from bit 4 is the decision D8 of the spec. [45_control.md R246, 60_exceptions.md R296,
92_eei_decisions.md D8] -/
def Obligations.RtiRestoresStatusAndPc : Prop :=
  ∀ (s : State),
    let p := s.mem.read (stackAt s 1)
    exec .rti s = .next
      { after .rti 0 s with
        pc := BitVec.ofNat 16 ((s.mem.read (stackAt s 2)).toNat + 256 * (s.mem.read (stackAt s 3)).toNat),
        sp := BitVec.ofNat 8 (s.sp.toNat + 3),
        flags := { c := p.toNat % 2 = 1, z := p.toNat / 2 % 2 = 1, i := p.toNat / 4 % 2 = 1, d := p.toNat / 8 % 2 = 1,
                   b := p.toNat / 16 % 2 = 1, v := p.toNat / 64 % 2 = 1, n := 128 ≤ p.toNat } } ∧
    Rows .rti [(.implied, 0x40)] ∧
    ∀ p : Params, Instr.rti.baseCycles p = 6

/-- With memory in canonical form, for every S, also where the stack wraps: JSR followed by RTS leaves PC at
PC_start + 3 and S, the flags and the registers as they were; vectored BRK followed by RTI leaves PC at PC_start +
2, S and the registers as before and every flag as before but B, which is 1: bit 4 is pushed as 1 and loaded back
(the decision D8 of the spec). [45_control.md R244 to R248, 60_exceptions.md R295, R296, 20_memory.md R50,
92_eei_decisions.md D8] -/
def Obligations.ReturnsUndoCallsAndVectorEntries : Prop :=
  ∀ (s : State) (addr : Word), s.mem.wf = true →
    (∃ t u, exec (.jsr addr) s = .next t ∧ exec .rts t = .next u ∧
      u.pc = BitVec.ofNat 16 (s.pc.toNat + 3) ∧ u.sp = s.sp ∧ u.flags = s.flags ∧ u.a = s.a ∧ u.x = s.x ∧ u.y = s.y) ∧
    (s.params.brkMode = .vectored →
      ∃ t u, exec .brk s = .next t ∧ exec .rti t = .next u ∧
        u.pc = BitVec.ofNat 16 (s.pc.toNat + 2) ∧ u.sp = s.sp ∧ u.flags = { s.flags with b := true } ∧
        u.a = s.a ∧ u.x = s.x ∧ u.y = s.y)

/-- Each flag instruction sets or clears its flag and NOP none, at a cost of 2; WAI and STP cost 3 and return
Finished; PC is PC_start + 1, and nothing else changes; each has its opcode. [46_flags_misc.md §1 to §3 (R260 to
R267, R273, R274), 92_eei_decisions.md D7, D9] -/
def Obligations.FlagInstructionsNopAndHalts : Prop :=
  ∀ (s : State),
    exec .clc s = .next { after .clc 0 s with flags := { s.flags with c := false } } ∧
    exec .sec s = .next { after .sec 0 s with flags := { s.flags with c := true } } ∧
    exec .cld s = .next { after .cld 0 s with flags := { s.flags with d := false } } ∧
    exec .sed s = .next { after .sed 0 s with flags := { s.flags with d := true } } ∧
    exec .cli s = .next { after .cli 0 s with flags := { s.flags with i := false } } ∧
    exec .sei s = .next { after .sei 0 s with flags := { s.flags with i := true } } ∧
    exec .clv s = .next { after .clv 0 s with flags := { s.flags with v := false } } ∧
    exec .nop s = .next (after .nop 0 s) ∧
    exec .wai s = .next { after .wai 0 s with outcome := .finished } ∧
    exec .stp s = .next { after .stp 0 s with outcome := .finished } ∧
    Rows .clc [(.implied, 0x18)] ∧
    Rows .sec [(.implied, 0x38)] ∧
    Rows .cld [(.implied, 0xD8)] ∧
    Rows .sed [(.implied, 0xF8)] ∧
    Rows .cli [(.implied, 0x58)] ∧
    Rows .sei [(.implied, 0x78)] ∧
    Rows .clv [(.implied, 0xB8)] ∧
    Rows .nop [(.implied, 0xEA)] ∧
    Rows .wai [(.implied, 0xCB)] ∧
    Rows .stp [(.implied, 0xDB)] ∧
    (∀ p : Params, ∀ i ∈ [Instr.clc, .sec, .cld, .sed, .cli, .sei, .clv, .nop], i.length = 1 ∧ i.baseCycles p = 2) ∧
    ∀ p : Params, ∀ i ∈ [Instr.wai, .stp], i.length = 1 ∧ i.baseCycles p = 3

/-- Under wdc_nop an undefined value advances PC past its form's bytes, adds its table cost and changes nothing
else; under fault it records UnsupportedInstruction with the opcode and PC_start and keeps the rest of the state.
[46_flags_misc.md §2 (R272), 60_exceptions.md R290, R292, 30_encoding.md R65, 92_eei_decisions.md D2] -/
def Obligations.UndefinedValuesUnderBothPolicies : Prop :=
  ∀ (s : State) (form : UndefForm),
    (s.params.undefPolicy = .wdcNop →
      exec (.undefined form) s = .next (after (.undefined form) 0 s)) ∧
    (s.params.undefPolicy = .fault →
      exec (.undefined form) s = .next { s with fault := some (.unsupportedInstruction form.opcode s.pc) })

/-- Each debug opcode is one byte at the value its parameter assigns, costs DEBUG_CYCLES and moves PC past it; the
breakpoint returns Pause, the dumps return Continue and add a diagnostic to the log; registers, flags and memory are
unchanged. What a diagnostic holds is the model's choice (log 6). [46_flags_misc.md R275 to R278, 30_encoding.md
R72, notes/assumptions/6.md] -/
def Obligations.DebugOpcodesPauseOrReport : Prop :=
  ∀ (s : State),
    let pc' : Word := BitVec.ofNat 16 (s.pc.toNat + 1)
    let cycles := s.totalCycles + s.params.debugCycles
    exec .opBreakpoint s = .next { s with pc := pc', totalCycles := cycles, outcome := .pause } ∧
    exec .opRegdump s = .next
      { s with
        pc := pc', totalCycles := cycles, outcome := .cont,
        log := s.log ++ [.registers s.a s.x s.y s.sp pc' s.flags] } ∧
    exec .opMemdump s = .next
      { s with pc := pc', totalCycles := cycles, outcome := .cont, log := s.log ++ [.memory] } ∧
    ∀ (dbg : DebugOpcodes) (op : Byte) (rest : List Byte), dbg.wf = true →
      (dbg.breakpoint = some op → decode dbg (op :: rest) = .ok (.opBreakpoint, rest)) ∧
      (dbg.regdump = some op → decode dbg (op :: rest) = .ok (.opRegdump, rest)) ∧
      (dbg.memdump = some op → decode dbg (op :: rest) = .ok (.opMemdump, rest))

/-- Under fault, a step at an undefined opcode value that no debug opcode takes records the fault with the opcode
and PC_start and changes nothing else; the next step is not taken; Reset, an accepted program load and an accepted
snapshot import clear the record. [60_exceptions.md R290, R292, 40_pipeline.md R84, 10_state.md R31, R33] -/
def Obligations.UndefinedOpcodeFaultIsPreciseAndFinal : Prop :=
  ∀ (s : State),
    s.fault = none → s.params.undefPolicy = .fault →
    memRead s s.pc ∈ undefinedOpcodes → memRead s s.pc ∉ s.params.debugOpcodes.values →
    let record := FaultRecord.unsupportedInstruction (memRead s s.pc) s.pc
    step s = .next { s with fault := some record } ∧
    step { s with fault := some record } = .fault (.instanceFaulted record) ∧
    (∀ start, (resetAt start { s with fault := some record }).fault = none) ∧
    (∀ bytes base, (loadProgram bytes base { s with fault := some record }).refusal = none →
      (loadProgram bytes base { s with fault := some record }).state.fault = none) ∧
    (∀ snap, (fromState snap { s with fault := some record }).refusal = none →
      (fromState snap { s with fault := some record }).state.fault = none)

/-- A, X and Y change only in the instructions the register rule lists; S changes only in TXS and by the pushes and
pulls of each stack instruction, modulo 256. [10_state.md R13, R14] -/
def Obligations.RegistersHaveOnlyTheirWriters : Prop :=
  ∀ (i : Instr) (s t : State), exec i s = .next t →
    (writesA i = false → t.a = s.a) ∧ (writesX i = false → t.x = s.x) ∧ (writesY i = false → t.y = s.y) ∧
    (i ≠ .txs → t.sp = s.sp + spStep i s)

/-- Each flag changes only in the instructions that the table of flag writers lists for it; B only in PLP and RTI.
[10_state.md R20 (the column of writers), R23] -/
def Obligations.FlagsHaveOnlyTheirWriters : Prop :=
  ∀ (i : Instr) (s t : State), exec i s = .next t →
    (writesC i = false → t.flags.c = s.flags.c) ∧ (writesZ i = false → t.flags.z = s.flags.z) ∧
    (writesI i s = false → t.flags.i = s.flags.i) ∧ (writesD i s = false → t.flags.d = s.flags.d) ∧
    (writesB i = false → t.flags.b = s.flags.b) ∧ (writesV i = false → t.flags.v = s.flags.v) ∧
    (writesN i = false → t.flags.n = s.flags.n)

/-- After an instruction that writes A, X or Y, Z tells that the written register is 0 and N is its bit 7; an
instruction that writes only S changes no flag. [10_state.md R16, 40_pipeline.md R87] -/
def Obligations.RegisterWritesDeriveZN : Prop :=
  ∀ (i : Instr) (s t : State), exec i s = .next t →
    (writesA i = true → t.flags.z = decide (t.a.toNat = 0) ∧ t.flags.n = decide (128 ≤ t.a.toNat)) ∧
    (writesX i = true → t.flags.z = decide (t.x.toNat = 0) ∧ t.flags.n = decide (128 ≤ t.x.toNat)) ∧
    (writesY i = true → t.flags.z = decide (t.y.toNat = 0) ∧ t.flags.n = decide (128 ≤ t.y.toNat)) ∧
    (i.mnemonic ∈ [.txs, .pha, .phx, .phy, .php, .jsr, .rts] → t.flags = s.flags)

/-- For every instruction and every address outside those it stores to (the effective address of a store or
read-modify-write, the zero-page byte of RMB and SMB, the stack bytes of a push, of JSR and of vectored BRK), the
byte reads as before; a load, compare, branch, jump, pull, flag instruction or register form changes no byte.
[20_memory.md R41, R44, R48] -/
def Obligations.MemoryChangesOnlyWhereInstructionsStore : Prop :=
  ∀ (i : Instr) (s t : State) (p : Word), exec i s = .next t → p ∉ storeAddrs i s → memRead t p = memRead s p

/-- Stepping a state whose cycle total is k higher and whose controller state and last outcome differ gives the same
answer with exactly those differences: no instruction reads them. The field for the last outcome, and that a
faulting step keeps it, are the model's choice (log 4). [10_state.md R28, R30, 70_reset_and_hazards.md R331,
60_exceptions.md R300, notes/assumptions/4.md] -/
def Obligations.CycleTotalAndControllerAreNeverRead : Prop :=
  ∀ (s : State) (k : Nat) (r : RunState) (b : Bool) (o : StepOutcome),
    step { s with totalCycles := s.totalCycles + k, runState := r, singleStep := b, outcome := o } =
      mapNext (fun t => { t with
        totalCycles := t.totalCycles + k, runState := r, singleStep := b,
        outcome := if t.fault = none then t.outcome else o }) (step s)

/-- Changing I before an instruction other than PHP and BRK changes nothing in the result but I itself; changing B
changes nothing but B itself, even in PHP and BRK, whose pushed bit 4 is always 1 (the decision D8 of the spec);
changing D before an instruction other than ADC, SBC, PHP and BRK changes nothing but D itself. OP_REGDUMP reports
the flags to the log and is left out. [10_state.md R20 to R23, 60_exceptions.md R293, R298, 92_eei_decisions.md D8
and D9] -/
def Obligations.WhatTheFlagsIBAndDSteer : Prop :=
  ∀ (i : Instr) (s : State) (v : Bool), i.mnemonic ≠ .opRegdump →
    (i.mnemonic ∉ [.php, .brk] →
      exec i { s with flags := { s.flags with i := v } } =
        mapNext (fun t => if writesI i s then t else { t with flags := { t.flags with i := v } }) (exec i s)) ∧
    exec i { s with flags := { s.flags with b := v } } =
      mapNext (fun t => if writesB i then t else { t with flags := { t.flags with b := v } }) (exec i s) ∧
    (i.mnemonic ∉ [.adc, .sbc, .php, .brk] →
      exec i { s with flags := { s.flags with d := v } } =
        mapNext (fun t => if writesD i s then t else { t with flags := { t.flags with d := v } }) (exec i s))

/-- The handler reads commands until the first continue, c or step, and resumes on it, clearing or setting
singleStep; on any other text it goes on, and with no such command it ends detached; each regs among the commands
read adds one diagnostic of the registers and the flags, and no other text does; nothing else changes. Exact
matching and detaching are the decision D30 of the spec; the command source as a list and what a diagnostic holds
are the model's choice (log 10, log 6). [60_exceptions.md R301, R305, 92_eei_decisions.md D30,
notes/assumptions/10.md, notes/assumptions/6.md] -/
def Obligations.PauseHandlerFollowsItsProtocol : Prop :=
  ∀ (commands : List String) (s : State),
    let p := pauseHandler commands s
    let report (k : Nat) : List Diagnostic := List.replicate k (.registers s.a s.x s.y s.sp s.pc s.flags)
    (p.resumed = true ↔ ∃ c ∈ commands, c = "continue" ∨ c = "c" ∨ c = "step") ∧
    (p.resumed = false → p.commands = [] ∧
      p.state = { s with log := s.log ++ report (commands.count "regs") }) ∧
    (p.resumed = true → ∃ before c, commands = before ++ c :: p.commands ∧
      (∀ d ∈ before, d ≠ "continue" ∧ d ≠ "c" ∧ d ≠ "step") ∧
      (c = "continue" ∨ c = "c" ∨ c = "step") ∧
      p.state = { s with singleStep := decide (c = "step"), log := s.log ++ report (before.count "regs") })

/-- From a Finished instance runUntilFinish returns 0 at once and changes nothing: Finished has no outgoing
transition. From a Running one whose step records a fault it aborts with that record. Whenever it returns a step
count, the run is Finished, or it is Paused and no command is left. When it aborts, the state records the reported
fault, runState is Running, the instance takes no further step, and running it again reports the same fault at once.
What it does when detached is the decision D30 of the spec; that an already faulted instance reports its record is
deduced (log 12). [60_exceptions.md R292, R300, R302 to R306, 92_eei_decisions.md D13, D14, D30,
notes/assumptions/12.md] -/
def Obligations.HowARunEnds : Prop :=
  ∀ (bound : Nat) (commands rest : List String) (s t : State),
    (s.runState = .finished → runUntilFinish (bound + 1) commands s = .returned 0 s commands) ∧
    (∀ u record, s.runState = .running → step s = .next u → u.fault = some record →
      runUntilFinish (bound + 1) commands s = .aborted record u commands) ∧
    (∀ record, s.runState = .running → s.fault = some record →
      runUntilFinish (bound + 1) commands s = .aborted record s commands) ∧
    (∀ n, runUntilFinish bound commands s = .returned n t rest →
      t.runState = .finished ∨ (t.runState = .paused ∧ rest = [])) ∧
    (∀ record, runUntilFinish bound commands s = .aborted record t rest →
      t.fault = some record ∧ t.runState = .running ∧ step t = .fault (.instanceFaulted record) ∧
      ∀ (more : Nat) (cs : List String), runUntilFinish (more + 1) cs t = .aborted record t cs)

/-- Whenever runUntilFinish returns a step count n, n bare steps from the same state reach the same state but for
runState, singleStep and the diagnostics, whatever pauses, single-stepping and commands came between.
[60_exceptions.md R300, R304, R306, 40_pipeline.md R92, 92_eei_decisions.md D15, D31] -/
def Obligations.RunStepsAreBareSteps : Prop :=
  ∀ (bound n : Nat) (commands rest : List String) (s t : State),
    runUntilFinish bound commands s = .returned n t rest →
      ∃ u, core.run n s = .next u ∧ State.architectural u = State.architectural t

/-- Reset sets PC to start, A, X and Y to 0x00, S to 0xFF and every flag to 0, Z too, zeroes the cycle total, makes
the controller Running without single-step and clears the fault; memory is unchanged; a fresh instance has every
byte 0x00 and packed P 0x20. Keeping memory, zeroed fresh memory, the cycle total, the controller and bit 5 are
decisions of the spec; the last outcome is the model's choice (log 13). [70_reset_and_hazards.md §1 (R320, R321),
92_eei_decisions.md D4, D5, D10, D13, D23, notes/assumptions/13.md] -/
def Obligations.ResetClearsRegistersAndKeepsMemory : Prop :=
  ∀ (start : Word) (s : State),
    let zero : Flags := { c := false, z := false, i := false, d := false, b := false, v := false, n := false }
    resetAt start s =
      { s with
        pc := start, a := 0x00, x := 0x00, y := 0x00, sp := 0xFF, flags := zero, totalCycles := 0,
        runState := .running, singleStep := false, fault := none, outcome := .cont } ∧
    (∀ p, memRead (resetAt start s) p = memRead s p) ∧
    (∀ params p, memRead (freshInstance params start) p = 0x00) ∧
    (∀ params, (freshInstance params start).flags.pack = 0x20)

/-- A program that ends by 0xFFFF is placed byte by byte from base, every byte outside keeps its value, and the
registers, flags and controller are those of Reset(base); a longer one is refused and the instance is unchanged. The
refusal is the decision D16 of the spec. [70_reset_and_hazards.md §1 (R322), 92_eei_decisions.md D16] -/
def Obligations.LoadProgramPlacesBytesOrRefuses : Prop :=
  ∀ (bytes : List Byte) (base : Word) (s : State), s.mem.wf = true →
    let r := loadProgram bytes base s
    (65536 < base.toNat + bytes.length → r.refusal = some .programTooLong ∧ r.state = s) ∧
    (base.toNat + bytes.length ≤ 65536 →
      r.refusal = none ∧ r.state = resetAt base { s with mem := r.state.mem } ∧ r.state.mem.wf = true ∧
      (∀ k b, bytes[k]? = some b → r.state.mem.read (base.toNat + k) = b) ∧
      (∀ p, p < base.toNat ∨ base.toNat + bytes.length ≤ p → r.state.mem.read p = s.mem.read p))

/-- The import is refused exactly when a register field is missing, a value is outside its width or a memory key or
value is out of range, and then nothing changes; otherwise the registers and flags are those of the snapshot, with
no re-derivation of Z and N, and memory is 0x00 but for the overrides. The width checks and the direct flags are the
decision D22 of the spec. [70_reset_and_hazards.md §1 (R323, R324), 92_eei_decisions.md D10, D13, D22,
notes/assumptions/25.md] -/
def Obligations.SnapshotImportSetsStateOrRejects : Prop :=
  ∀ (snap : Snapshot) (s : State),
    let r := fromState snap s
    let good : Prop :=
      (∃ f, snap.fields = some f ∧ f.pc < 65536 ∧ f.a < 256 ∧ f.x < 256 ∧ f.y < 256 ∧ f.s < 256 ∧ f.p < 256) ∧
      ∀ kv ∈ snap.memory, kv.1 < 65536 ∧ kv.2 < 256
    (r.refusal = none ↔ good) ∧ (r.refusal ≠ none → r.state = s) ∧
    (good → ∀ f, snap.fields = some f →
      r.state.pc.toNat = f.pc ∧ r.state.a.toNat = f.a ∧ r.state.x.toNat = f.x ∧ r.state.y.toNat = f.y ∧
      r.state.sp.toNat = f.s ∧ r.state.flags = Flags.unpack (BitVec.ofNat 8 f.p) ∧
      r.state.totalCycles = 0 ∧ r.state.runState = .running ∧ r.state.singleStep = false ∧ r.state.fault = none ∧
      ((snap.memory.map Prod.fst).Nodup →
        (∀ kv ∈ snap.memory, (r.state.mem.read kv.1).toNat = kv.2) ∧
        ∀ p, p ∉ snap.memory.map Prod.fst → r.state.mem.read p = 0x00))

/-- From every state with canonical memory, GetState followed by FromState into any instance gives back the
registers, the seven flags and memory as equal data, in a new run, and the restored state compares equal with the
export. That the last outcome becomes Continue and that the diagnostics and the parameters are those of the instance
imported into are the model's choice (log 13). [70_reset_and_hazards.md R324, R325, R326, 10_state.md R19,
92_eei_decisions.md D10, D13, D22, D27, notes/assumptions/13.md] -/
def Obligations.ExportThenImportRestoresTheState : Prop :=
  ∀ (s s0 : State), s.mem.wf = true →
    let r := fromState (getState s) s0
    r.refusal = none ∧
    r.state =
      { s with
        totalCycles := 0, runState := .running, singleStep := false, fault := none, outcome := .cont,
        log := s0.log, params := s0.params } ∧
    matchesExpected (getState s) r.state = true

/-- With n steps counted so far: while Paused the handler is called, and its resume gives Running. A completed step
counts one. Without single-step, Continue leaves the run Running; Pause makes it Paused and calls the handler once;
Finished makes it Finished and the count is returned. With single-step, every completed step makes it Paused and
calls the handler once, and on resume it is Running, or Finished after a Finished step, whose count is then
returned. Detached, the count is returned and the run stays Paused. The single pause before Finished, the count and
detaching are the decisions D14, D15 and D30 of the spec; the bound is the caller's (log 11). [60_exceptions.md R300
to R302, R304 to R306, R308, 92_eei_decisions.md D14, D15, D30, notes/assumptions/10.md, notes/assumptions/11.md] -/
def Obligations.ControllerTransitions : Prop :=
  ∀ (bound n : Nat) (commands : List String) (s : State),
    (s.runState = .paused →
      let p := pauseHandler commands s
      runLoop (bound + 1) n commands s =
        if p.resumed then runLoop bound n p.commands { p.state with runState := .running }
        else .returned n p.state p.commands) ∧
    ∀ u, s.runState = .running → step s = .next u → u.fault = none →
      let p := pauseHandler commands { u with runState := .paused }
      (s.singleStep = false → u.outcome = .cont →
        runLoop (bound + 1) n commands s = runLoop bound (n + 1) commands u) ∧
      (s.singleStep = false → u.outcome = .pause →
        runLoop (bound + 2) n commands s =
          if p.resumed then runLoop bound (n + 1) p.commands { p.state with runState := .running }
          else .returned (n + 1) p.state p.commands) ∧
      (s.singleStep = false → u.outcome = .finished →
        runLoop (bound + 2) n commands s = .returned (n + 1) { u with runState := .finished } commands) ∧
      (s.singleStep = true → p.resumed = false →
        runLoop (bound + 1) n commands s = .returned (n + 1) p.state p.commands) ∧
      (s.singleStep = true → p.resumed = true → u.outcome ≠ .finished →
        runLoop (bound + 1) n commands s
          = runLoop bound (n + 1) p.commands { p.state with runState := .running }) ∧
      (s.singleStep = true → p.resumed = true → u.outcome = .finished →
        runLoop (bound + 2) n commands s = .returned (n + 1) { p.state with runState := .finished } p.commands)
end

