-- ==== Sys2Proof/Laws/State.lean ====
section
/-! SUPPORT. One lemma per field per update of the state, so that no proof unfolds a record update; then what a byte of
memory reads as after each update. -/

namespace Sys2Proof.Machine

@[simp] theorem memWrite_a (s : State) (k : Word) (v : Byte) : (memWrite s k v).a = s.a := rfl
@[simp] theorem memWrite_x (s : State) (k : Word) (v : Byte) : (memWrite s k v).x = s.x := rfl
@[simp] theorem memWrite_y (s : State) (k : Word) (v : Byte) : (memWrite s k v).y = s.y := rfl
@[simp] theorem memWrite_sp (s : State) (k : Word) (v : Byte) : (memWrite s k v).sp = s.sp := rfl
@[simp] theorem memWrite_pc (s : State) (k : Word) (v : Byte) : (memWrite s k v).pc = s.pc := rfl
@[simp] theorem memWrite_flags (s : State) (k : Word) (v : Byte) : (memWrite s k v).flags = s.flags := rfl
@[simp] theorem memWrite_mem (s : State) (k : Word) (v : Byte) : (memWrite s k v).mem = s.mem.write k.toNat v := rfl
@[simp] theorem memWrite_totalCycles (s : State) (k : Word) (v : Byte) : (memWrite s k v).totalCycles = s.totalCycles := rfl
@[simp] theorem memWrite_runState (s : State) (k : Word) (v : Byte) : (memWrite s k v).runState = s.runState := rfl
@[simp] theorem memWrite_singleStep (s : State) (k : Word) (v : Byte) : (memWrite s k v).singleStep = s.singleStep := rfl
@[simp] theorem memWrite_fault (s : State) (k : Word) (v : Byte) : (memWrite s k v).fault = s.fault := rfl
@[simp] theorem memWrite_outcome (s : State) (k : Word) (v : Byte) : (memWrite s k v).outcome = s.outcome := rfl
@[simp] theorem memWrite_log (s : State) (k : Word) (v : Byte) : (memWrite s k v).log = s.log := rfl
@[simp] theorem memWrite_params (s : State) (k : Word) (v : Byte) : (memWrite s k v).params = s.params := rfl

@[simp] theorem setFlags_a (f : Flags) (s : State) : (setFlags f s).a = s.a := rfl
@[simp] theorem setFlags_x (f : Flags) (s : State) : (setFlags f s).x = s.x := rfl
@[simp] theorem setFlags_y (f : Flags) (s : State) : (setFlags f s).y = s.y := rfl
@[simp] theorem setFlags_sp (f : Flags) (s : State) : (setFlags f s).sp = s.sp := rfl
@[simp] theorem setFlags_pc (f : Flags) (s : State) : (setFlags f s).pc = s.pc := rfl
@[simp] theorem setFlags_flags (f : Flags) (s : State) : (setFlags f s).flags = f := rfl
@[simp] theorem setFlags_mem (f : Flags) (s : State) : (setFlags f s).mem = s.mem := rfl
@[simp] theorem setFlags_totalCycles (f : Flags) (s : State) : (setFlags f s).totalCycles = s.totalCycles := rfl
@[simp] theorem setFlags_runState (f : Flags) (s : State) : (setFlags f s).runState = s.runState := rfl
@[simp] theorem setFlags_singleStep (f : Flags) (s : State) : (setFlags f s).singleStep = s.singleStep := rfl
@[simp] theorem setFlags_fault (f : Flags) (s : State) : (setFlags f s).fault = s.fault := rfl
@[simp] theorem setFlags_outcome (f : Flags) (s : State) : (setFlags f s).outcome = s.outcome := rfl
@[simp] theorem setFlags_log (f : Flags) (s : State) : (setFlags f s).log = s.log := rfl
@[simp] theorem setFlags_params (f : Flags) (s : State) : (setFlags f s).params = s.params := rfl

@[simp] theorem setZN_a (v : Byte) (s : State) : (setZN v s).a = s.a := rfl
@[simp] theorem setZN_x (v : Byte) (s : State) : (setZN v s).x = s.x := rfl
@[simp] theorem setZN_y (v : Byte) (s : State) : (setZN v s).y = s.y := rfl
@[simp] theorem setZN_sp (v : Byte) (s : State) : (setZN v s).sp = s.sp := rfl
@[simp] theorem setZN_pc (v : Byte) (s : State) : (setZN v s).pc = s.pc := rfl
@[simp] theorem setZN_flags (v : Byte) (s : State) : (setZN v s).flags = s.flags.withZN v := rfl
@[simp] theorem setZN_mem (v : Byte) (s : State) : (setZN v s).mem = s.mem := rfl
@[simp] theorem setZN_totalCycles (v : Byte) (s : State) : (setZN v s).totalCycles = s.totalCycles := rfl
@[simp] theorem setZN_runState (v : Byte) (s : State) : (setZN v s).runState = s.runState := rfl
@[simp] theorem setZN_singleStep (v : Byte) (s : State) : (setZN v s).singleStep = s.singleStep := rfl
@[simp] theorem setZN_fault (v : Byte) (s : State) : (setZN v s).fault = s.fault := rfl
@[simp] theorem setZN_outcome (v : Byte) (s : State) : (setZN v s).outcome = s.outcome := rfl
@[simp] theorem setZN_log (v : Byte) (s : State) : (setZN v s).log = s.log := rfl
@[simp] theorem setZN_params (v : Byte) (s : State) : (setZN v s).params = s.params := rfl

@[simp] theorem setA_a (v : Byte) (s : State) : (setA v s).a = v := rfl
@[simp] theorem setA_x (v : Byte) (s : State) : (setA v s).x = s.x := rfl
@[simp] theorem setA_y (v : Byte) (s : State) : (setA v s).y = s.y := rfl
@[simp] theorem setA_sp (v : Byte) (s : State) : (setA v s).sp = s.sp := rfl
@[simp] theorem setA_pc (v : Byte) (s : State) : (setA v s).pc = s.pc := rfl
@[simp] theorem setA_flags (v : Byte) (s : State) : (setA v s).flags = s.flags.withZN v := rfl
@[simp] theorem setA_mem (v : Byte) (s : State) : (setA v s).mem = s.mem := rfl
@[simp] theorem setA_totalCycles (v : Byte) (s : State) : (setA v s).totalCycles = s.totalCycles := rfl
@[simp] theorem setA_runState (v : Byte) (s : State) : (setA v s).runState = s.runState := rfl
@[simp] theorem setA_singleStep (v : Byte) (s : State) : (setA v s).singleStep = s.singleStep := rfl
@[simp] theorem setA_fault (v : Byte) (s : State) : (setA v s).fault = s.fault := rfl
@[simp] theorem setA_outcome (v : Byte) (s : State) : (setA v s).outcome = s.outcome := rfl
@[simp] theorem setA_log (v : Byte) (s : State) : (setA v s).log = s.log := rfl
@[simp] theorem setA_params (v : Byte) (s : State) : (setA v s).params = s.params := rfl

@[simp] theorem setX_a (v : Byte) (s : State) : (setX v s).a = s.a := rfl
@[simp] theorem setX_x (v : Byte) (s : State) : (setX v s).x = v := rfl
@[simp] theorem setX_y (v : Byte) (s : State) : (setX v s).y = s.y := rfl
@[simp] theorem setX_sp (v : Byte) (s : State) : (setX v s).sp = s.sp := rfl
@[simp] theorem setX_pc (v : Byte) (s : State) : (setX v s).pc = s.pc := rfl
@[simp] theorem setX_flags (v : Byte) (s : State) : (setX v s).flags = s.flags.withZN v := rfl
@[simp] theorem setX_mem (v : Byte) (s : State) : (setX v s).mem = s.mem := rfl
@[simp] theorem setX_totalCycles (v : Byte) (s : State) : (setX v s).totalCycles = s.totalCycles := rfl
@[simp] theorem setX_runState (v : Byte) (s : State) : (setX v s).runState = s.runState := rfl
@[simp] theorem setX_singleStep (v : Byte) (s : State) : (setX v s).singleStep = s.singleStep := rfl
@[simp] theorem setX_fault (v : Byte) (s : State) : (setX v s).fault = s.fault := rfl
@[simp] theorem setX_outcome (v : Byte) (s : State) : (setX v s).outcome = s.outcome := rfl
@[simp] theorem setX_log (v : Byte) (s : State) : (setX v s).log = s.log := rfl
@[simp] theorem setX_params (v : Byte) (s : State) : (setX v s).params = s.params := rfl

@[simp] theorem setY_a (v : Byte) (s : State) : (setY v s).a = s.a := rfl
@[simp] theorem setY_x (v : Byte) (s : State) : (setY v s).x = s.x := rfl
@[simp] theorem setY_y (v : Byte) (s : State) : (setY v s).y = v := rfl
@[simp] theorem setY_sp (v : Byte) (s : State) : (setY v s).sp = s.sp := rfl
@[simp] theorem setY_pc (v : Byte) (s : State) : (setY v s).pc = s.pc := rfl
@[simp] theorem setY_flags (v : Byte) (s : State) : (setY v s).flags = s.flags.withZN v := rfl
@[simp] theorem setY_mem (v : Byte) (s : State) : (setY v s).mem = s.mem := rfl
@[simp] theorem setY_totalCycles (v : Byte) (s : State) : (setY v s).totalCycles = s.totalCycles := rfl
@[simp] theorem setY_runState (v : Byte) (s : State) : (setY v s).runState = s.runState := rfl
@[simp] theorem setY_singleStep (v : Byte) (s : State) : (setY v s).singleStep = s.singleStep := rfl
@[simp] theorem setY_fault (v : Byte) (s : State) : (setY v s).fault = s.fault := rfl
@[simp] theorem setY_outcome (v : Byte) (s : State) : (setY v s).outcome = s.outcome := rfl
@[simp] theorem setY_log (v : Byte) (s : State) : (setY v s).log = s.log := rfl
@[simp] theorem setY_params (v : Byte) (s : State) : (setY v s).params = s.params := rfl

@[simp] theorem setSp_a (v : Byte) (s : State) : (setSp v s).a = s.a := rfl
@[simp] theorem setSp_x (v : Byte) (s : State) : (setSp v s).x = s.x := rfl
@[simp] theorem setSp_y (v : Byte) (s : State) : (setSp v s).y = s.y := rfl
@[simp] theorem setSp_sp (v : Byte) (s : State) : (setSp v s).sp = v := rfl
@[simp] theorem setSp_pc (v : Byte) (s : State) : (setSp v s).pc = s.pc := rfl
@[simp] theorem setSp_flags (v : Byte) (s : State) : (setSp v s).flags = s.flags := rfl
@[simp] theorem setSp_mem (v : Byte) (s : State) : (setSp v s).mem = s.mem := rfl
@[simp] theorem setSp_totalCycles (v : Byte) (s : State) : (setSp v s).totalCycles = s.totalCycles := rfl
@[simp] theorem setSp_runState (v : Byte) (s : State) : (setSp v s).runState = s.runState := rfl
@[simp] theorem setSp_singleStep (v : Byte) (s : State) : (setSp v s).singleStep = s.singleStep := rfl
@[simp] theorem setSp_fault (v : Byte) (s : State) : (setSp v s).fault = s.fault := rfl
@[simp] theorem setSp_outcome (v : Byte) (s : State) : (setSp v s).outcome = s.outcome := rfl
@[simp] theorem setSp_log (v : Byte) (s : State) : (setSp v s).log = s.log := rfl
@[simp] theorem setSp_params (v : Byte) (s : State) : (setSp v s).params = s.params := rfl

@[simp] theorem setPc_a (w : Word) (s : State) : (setPc w s).a = s.a := rfl
@[simp] theorem setPc_x (w : Word) (s : State) : (setPc w s).x = s.x := rfl
@[simp] theorem setPc_y (w : Word) (s : State) : (setPc w s).y = s.y := rfl
@[simp] theorem setPc_sp (w : Word) (s : State) : (setPc w s).sp = s.sp := rfl
@[simp] theorem setPc_pc (w : Word) (s : State) : (setPc w s).pc = w := rfl
@[simp] theorem setPc_flags (w : Word) (s : State) : (setPc w s).flags = s.flags := rfl
@[simp] theorem setPc_mem (w : Word) (s : State) : (setPc w s).mem = s.mem := rfl
@[simp] theorem setPc_totalCycles (w : Word) (s : State) : (setPc w s).totalCycles = s.totalCycles := rfl
@[simp] theorem setPc_runState (w : Word) (s : State) : (setPc w s).runState = s.runState := rfl
@[simp] theorem setPc_singleStep (w : Word) (s : State) : (setPc w s).singleStep = s.singleStep := rfl
@[simp] theorem setPc_fault (w : Word) (s : State) : (setPc w s).fault = s.fault := rfl
@[simp] theorem setPc_outcome (w : Word) (s : State) : (setPc w s).outcome = s.outcome := rfl
@[simp] theorem setPc_log (w : Word) (s : State) : (setPc w s).log = s.log := rfl
@[simp] theorem setPc_params (w : Word) (s : State) : (setPc w s).params = s.params := rfl

@[simp] theorem emit_a (d : Diagnostic) (s : State) : (emit d s).a = s.a := rfl
@[simp] theorem emit_x (d : Diagnostic) (s : State) : (emit d s).x = s.x := rfl
@[simp] theorem emit_y (d : Diagnostic) (s : State) : (emit d s).y = s.y := rfl
@[simp] theorem emit_sp (d : Diagnostic) (s : State) : (emit d s).sp = s.sp := rfl
@[simp] theorem emit_pc (d : Diagnostic) (s : State) : (emit d s).pc = s.pc := rfl
@[simp] theorem emit_flags (d : Diagnostic) (s : State) : (emit d s).flags = s.flags := rfl
@[simp] theorem emit_mem (d : Diagnostic) (s : State) : (emit d s).mem = s.mem := rfl
@[simp] theorem emit_totalCycles (d : Diagnostic) (s : State) : (emit d s).totalCycles = s.totalCycles := rfl
@[simp] theorem emit_runState (d : Diagnostic) (s : State) : (emit d s).runState = s.runState := rfl
@[simp] theorem emit_singleStep (d : Diagnostic) (s : State) : (emit d s).singleStep = s.singleStep := rfl
@[simp] theorem emit_fault (d : Diagnostic) (s : State) : (emit d s).fault = s.fault := rfl
@[simp] theorem emit_outcome (d : Diagnostic) (s : State) : (emit d s).outcome = s.outcome := rfl
@[simp] theorem emit_log (d : Diagnostic) (s : State) : (emit d s).log = s.log ++ [d] := rfl
@[simp] theorem emit_params (d : Diagnostic) (s : State) : (emit d s).params = s.params := rfl

@[simp] theorem push_a (v : Byte) (s : State) : (push v s).a = s.a := rfl
@[simp] theorem push_x (v : Byte) (s : State) : (push v s).x = s.x := rfl
@[simp] theorem push_y (v : Byte) (s : State) : (push v s).y = s.y := rfl
@[simp] theorem push_sp (v : Byte) (s : State) : (push v s).sp = s.sp - 1 := rfl
@[simp] theorem push_pc (v : Byte) (s : State) : (push v s).pc = s.pc := rfl
@[simp] theorem push_flags (v : Byte) (s : State) : (push v s).flags = s.flags := rfl
@[simp] theorem push_mem (v : Byte) (s : State) : (push v s).mem = s.mem.write (stackAddr s.sp).toNat v := rfl
@[simp] theorem push_totalCycles (v : Byte) (s : State) : (push v s).totalCycles = s.totalCycles := rfl
@[simp] theorem push_runState (v : Byte) (s : State) : (push v s).runState = s.runState := rfl
@[simp] theorem push_singleStep (v : Byte) (s : State) : (push v s).singleStep = s.singleStep := rfl
@[simp] theorem push_fault (v : Byte) (s : State) : (push v s).fault = s.fault := rfl
@[simp] theorem push_outcome (v : Byte) (s : State) : (push v s).outcome = s.outcome := rfl
@[simp] theorem push_log (v : Byte) (s : State) : (push v s).log = s.log := rfl
@[simp] theorem push_params (v : Byte) (s : State) : (push v s).params = s.params := rfl

@[simp] theorem afterPull_a (s : State) : (afterPull s).a = s.a := rfl
@[simp] theorem afterPull_x (s : State) : (afterPull s).x = s.x := rfl
@[simp] theorem afterPull_y (s : State) : (afterPull s).y = s.y := rfl
@[simp] theorem afterPull_sp (s : State) : (afterPull s).sp = s.sp + 1 := rfl
@[simp] theorem afterPull_pc (s : State) : (afterPull s).pc = s.pc := rfl
@[simp] theorem afterPull_flags (s : State) : (afterPull s).flags = s.flags := rfl
@[simp] theorem afterPull_mem (s : State) : (afterPull s).mem = s.mem := rfl
@[simp] theorem afterPull_totalCycles (s : State) : (afterPull s).totalCycles = s.totalCycles := rfl
@[simp] theorem afterPull_runState (s : State) : (afterPull s).runState = s.runState := rfl
@[simp] theorem afterPull_singleStep (s : State) : (afterPull s).singleStep = s.singleStep := rfl
@[simp] theorem afterPull_fault (s : State) : (afterPull s).fault = s.fault := rfl
@[simp] theorem afterPull_outcome (s : State) : (afterPull s).outcome = s.outcome := rfl
@[simp] theorem afterPull_log (s : State) : (afterPull s).log = s.log := rfl
@[simp] theorem afterPull_params (s : State) : (afterPull s).params = s.params := rfl

@[simp] theorem afterFetch_a (s : State) : (afterFetch s).a = s.a := rfl
@[simp] theorem afterFetch_x (s : State) : (afterFetch s).x = s.x := rfl
@[simp] theorem afterFetch_y (s : State) : (afterFetch s).y = s.y := rfl
@[simp] theorem afterFetch_sp (s : State) : (afterFetch s).sp = s.sp := rfl
@[simp] theorem afterFetch_pc (s : State) : (afterFetch s).pc = s.pc + 1 := rfl
@[simp] theorem afterFetch_flags (s : State) : (afterFetch s).flags = s.flags := rfl
@[simp] theorem afterFetch_mem (s : State) : (afterFetch s).mem = s.mem := rfl
@[simp] theorem afterFetch_totalCycles (s : State) : (afterFetch s).totalCycles = s.totalCycles := rfl
@[simp] theorem afterFetch_runState (s : State) : (afterFetch s).runState = s.runState := rfl
@[simp] theorem afterFetch_singleStep (s : State) : (afterFetch s).singleStep = s.singleStep := rfl
@[simp] theorem afterFetch_fault (s : State) : (afterFetch s).fault = s.fault := rfl
@[simp] theorem afterFetch_outcome (s : State) : (afterFetch s).outcome = s.outcome := rfl
@[simp] theorem afterFetch_log (s : State) : (afterFetch s).log = s.log := rfl
@[simp] theorem afterFetch_params (s : State) : (afterFetch s).params = s.params := rfl

@[simp] theorem fetchOperands_a (i : Instr) (s : State) : (fetchOperands i s).a = s.a := rfl
@[simp] theorem fetchOperands_x (i : Instr) (s : State) : (fetchOperands i s).x = s.x := rfl
@[simp] theorem fetchOperands_y (i : Instr) (s : State) : (fetchOperands i s).y = s.y := rfl
@[simp] theorem fetchOperands_sp (i : Instr) (s : State) : (fetchOperands i s).sp = s.sp := rfl
@[simp] theorem fetchOperands_pc (i : Instr) (s : State) : (fetchOperands i s).pc = s.pc + BitVec.ofNat 16 i.length := rfl
@[simp] theorem fetchOperands_flags (i : Instr) (s : State) : (fetchOperands i s).flags = s.flags := rfl
@[simp] theorem fetchOperands_mem (i : Instr) (s : State) : (fetchOperands i s).mem = s.mem := rfl
@[simp] theorem fetchOperands_totalCycles (i : Instr) (s : State) : (fetchOperands i s).totalCycles = s.totalCycles := rfl
@[simp] theorem fetchOperands_runState (i : Instr) (s : State) : (fetchOperands i s).runState = s.runState := rfl
@[simp] theorem fetchOperands_singleStep (i : Instr) (s : State) : (fetchOperands i s).singleStep = s.singleStep := rfl
@[simp] theorem fetchOperands_fault (i : Instr) (s : State) : (fetchOperands i s).fault = s.fault := rfl
@[simp] theorem fetchOperands_outcome (i : Instr) (s : State) : (fetchOperands i s).outcome = s.outcome := rfl
@[simp] theorem fetchOperands_log (i : Instr) (s : State) : (fetchOperands i s).log = s.log := rfl
@[simp] theorem fetchOperands_params (i : Instr) (s : State) : (fetchOperands i s).params = s.params := rfl

@[simp] theorem boundFinished_a (s : State) : (boundFinished s).a = s.a := rfl
@[simp] theorem boundFinished_x (s : State) : (boundFinished s).x = s.x := rfl
@[simp] theorem boundFinished_y (s : State) : (boundFinished s).y = s.y := rfl
@[simp] theorem boundFinished_sp (s : State) : (boundFinished s).sp = s.sp := rfl
@[simp] theorem boundFinished_pc (s : State) : (boundFinished s).pc = s.pc := rfl
@[simp] theorem boundFinished_flags (s : State) : (boundFinished s).flags = s.flags := rfl
@[simp] theorem boundFinished_mem (s : State) : (boundFinished s).mem = s.mem := rfl
@[simp] theorem boundFinished_totalCycles (s : State) : (boundFinished s).totalCycles = s.totalCycles := rfl
@[simp] theorem boundFinished_runState (s : State) : (boundFinished s).runState = s.runState := rfl
@[simp] theorem boundFinished_singleStep (s : State) : (boundFinished s).singleStep = s.singleStep := rfl
@[simp] theorem boundFinished_fault (s : State) : (boundFinished s).fault = s.fault := rfl
@[simp] theorem boundFinished_outcome (s : State) : (boundFinished s).outcome = .finished := rfl
@[simp] theorem boundFinished_log (s : State) : (boundFinished s).log = s.log := rfl
@[simp] theorem boundFinished_params (s : State) : (boundFinished s).params = s.params := rfl

@[simp] theorem memRead_setFlags (f : Flags) (s : State) (p : Word) : memRead (setFlags f s) p = memRead s p := rfl
@[simp] theorem memRead_setZN (v : Byte) (s : State) (p : Word) : memRead (setZN v s) p = memRead s p := rfl
@[simp] theorem memRead_setA (v : Byte) (s : State) (p : Word) : memRead (setA v s) p = memRead s p := rfl
@[simp] theorem memRead_setX (v : Byte) (s : State) (p : Word) : memRead (setX v s) p = memRead s p := rfl
@[simp] theorem memRead_setY (v : Byte) (s : State) (p : Word) : memRead (setY v s) p = memRead s p := rfl
@[simp] theorem memRead_setSp (v : Byte) (s : State) (p : Word) : memRead (setSp v s) p = memRead s p := rfl
@[simp] theorem memRead_setPc (w : Word) (s : State) (p : Word) : memRead (setPc w s) p = memRead s p := rfl
@[simp] theorem memRead_emit (d : Diagnostic) (s : State) (p : Word) : memRead (emit d s) p = memRead s p := rfl
@[simp] theorem memRead_afterPull (s : State) (p : Word) : memRead (afterPull s) p = memRead s p := rfl
@[simp] theorem memRead_afterFetch (s : State) (p : Word) : memRead (afterFetch s) p = memRead s p := rfl
@[simp] theorem memRead_fetchOperands (i : Instr) (s : State) (p : Word) : memRead (fetchOperands i s) p = memRead s p := rfl
@[simp] theorem memRead_boundFinished (s : State) (p : Word) : memRead (boundFinished s) p = memRead s p := rfl

@[simp] theorem Flags.withZN_c (f : Flags) (r : Byte) : (f.withZN r).c = f.c := rfl
@[simp] theorem Flags.withZN_z (f : Flags) (r : Byte) : (f.withZN r).z = decide (r = 0) := rfl
@[simp] theorem Flags.withZN_i (f : Flags) (r : Byte) : (f.withZN r).i = f.i := rfl
@[simp] theorem Flags.withZN_d (f : Flags) (r : Byte) : (f.withZN r).d = f.d := rfl
@[simp] theorem Flags.withZN_b (f : Flags) (r : Byte) : (f.withZN r).b = f.b := rfl
@[simp] theorem Flags.withZN_v (f : Flags) (r : Byte) : (f.withZN r).v = f.v := rfl
@[simp] theorem Flags.withZN_n (f : Flags) (r : Byte) : (f.withZN r).n = r.getLsbD 7 := rfl

@[simp] theorem Flags.withZ_c (f : Flags) (z : Bool) : (f.withZ z).c = f.c := rfl
@[simp] theorem Flags.withZ_z (f : Flags) (z : Bool) : (f.withZ z).z = z := rfl
@[simp] theorem Flags.withZ_i (f : Flags) (z : Bool) : (f.withZ z).i = f.i := rfl
@[simp] theorem Flags.withZ_d (f : Flags) (z : Bool) : (f.withZ z).d = f.d := rfl
@[simp] theorem Flags.withZ_b (f : Flags) (z : Bool) : (f.withZ z).b = f.b := rfl
@[simp] theorem Flags.withZ_v (f : Flags) (z : Bool) : (f.withZ z).v = f.v := rfl
@[simp] theorem Flags.withZ_n (f : Flags) (z : Bool) : (f.withZ z).n = f.n := rfl

@[simp] theorem Flags.withC_c (f : Flags) (c : Bool) : (f.withC c).c = c := rfl
@[simp] theorem Flags.withC_z (f : Flags) (c : Bool) : (f.withC c).z = f.z := rfl
@[simp] theorem Flags.withC_i (f : Flags) (c : Bool) : (f.withC c).i = f.i := rfl
@[simp] theorem Flags.withC_d (f : Flags) (c : Bool) : (f.withC c).d = f.d := rfl
@[simp] theorem Flags.withC_b (f : Flags) (c : Bool) : (f.withC c).b = f.b := rfl
@[simp] theorem Flags.withC_v (f : Flags) (c : Bool) : (f.withC c).v = f.v := rfl
@[simp] theorem Flags.withC_n (f : Flags) (c : Bool) : (f.withC c).n = f.n := rfl

@[simp] theorem Flags.withCV_c (f : Flags) (c v : Bool) : (f.withCV c v).c = c := rfl
@[simp] theorem Flags.withCV_z (f : Flags) (c v : Bool) : (f.withCV c v).z = f.z := rfl
@[simp] theorem Flags.withCV_i (f : Flags) (c v : Bool) : (f.withCV c v).i = f.i := rfl
@[simp] theorem Flags.withCV_d (f : Flags) (c v : Bool) : (f.withCV c v).d = f.d := rfl
@[simp] theorem Flags.withCV_b (f : Flags) (c v : Bool) : (f.withCV c v).b = f.b := rfl
@[simp] theorem Flags.withCV_v (f : Flags) (c v : Bool) : (f.withCV c v).v = v := rfl
@[simp] theorem Flags.withCV_n (f : Flags) (c v : Bool) : (f.withCV c v).n = f.n := rfl

@[simp] theorem Flags.withNV_c (f : Flags) (n v : Bool) : (f.withNV n v).c = f.c := rfl
@[simp] theorem Flags.withNV_z (f : Flags) (n v : Bool) : (f.withNV n v).z = f.z := rfl
@[simp] theorem Flags.withNV_i (f : Flags) (n v : Bool) : (f.withNV n v).i = f.i := rfl
@[simp] theorem Flags.withNV_d (f : Flags) (n v : Bool) : (f.withNV n v).d = f.d := rfl
@[simp] theorem Flags.withNV_b (f : Flags) (n v : Bool) : (f.withNV n v).b = f.b := rfl
@[simp] theorem Flags.withNV_v (f : Flags) (n v : Bool) : (f.withNV n v).v = v := rfl
@[simp] theorem Flags.withNV_n (f : Flags) (n v : Bool) : (f.withNV n v).n = n := rfl

@[simp] theorem Flags.withCompare_c (f : Flags) (r op : Byte) : (f.withCompare r op).c = decide (op.toNat ≤ r.toNat) := rfl
@[simp] theorem Flags.withCompare_z (f : Flags) (r op : Byte) : (f.withCompare r op).z = decide (r = op) := rfl
@[simp] theorem Flags.withCompare_i (f : Flags) (r op : Byte) : (f.withCompare r op).i = f.i := rfl
@[simp] theorem Flags.withCompare_d (f : Flags) (r op : Byte) : (f.withCompare r op).d = f.d := rfl
@[simp] theorem Flags.withCompare_b (f : Flags) (r op : Byte) : (f.withCompare r op).b = f.b := rfl
@[simp] theorem Flags.withCompare_v (f : Flags) (r op : Byte) : (f.withCompare r op).v = f.v := rfl
@[simp] theorem Flags.withCompare_n (f : Flags) (r op : Byte) : (f.withCompare r op).n = (r - op).getLsbD 7 := rfl

end Sys2Proof.Machine
end

