-- ==== Sys2Proof/Laws/Memory.lean ====
section
/-! SUPPORT. Memory: a read after a write, the canonical form that every operation keeps, and that two canonical
memories that read alike are equal. -/

namespace Sys2Proof.Machine

/-- In the canonical form from `lo` on, an address below `lo` is not listed. -/
theorem Memory.read_below {m : Memory} {lo : Nat} (h : m.wfFrom lo = true) {a : Nat} (ha : a < lo) :
    m.read a = memInit := by
  induction m generalizing lo with
  | nil => rfl
  | cons c rest ih =>
    obtain ⟨k, b⟩ := c
    simp only [Memory.wfFrom, Bool.and_eq_true, decide_eq_true_eq] at h
    have hk : ¬ k = a := by omega
    simp only [Memory.read, if_neg hk]
    exact ih h.2 (by omega)

/-- The form from a lower address on is weaker. -/
theorem Memory.wfFrom_mono {m : Memory} {lo lo' : Nat} (h : m.wfFrom lo = true) (hl : lo' ≤ lo) :
    m.wfFrom lo' = true := by
  cases m with
  | nil => rfl
  | cons c rest =>
    obtain ⟨k, b⟩ := c
    simp only [Memory.wfFrom, Bool.and_eq_true, decide_eq_true_eq] at h ⊢
    exact ⟨⟨⟨by omega, h.1.1.2⟩, h.1.2⟩, h.2⟩

theorem Memory.put_wfFrom {rest : Memory} {a lo : Nat} {v : Byte} (h : rest.wfFrom (a + 1) = true) (hlo : lo ≤ a)
    (ha : a < memoryBound) : (Memory.put a v rest).wfFrom lo = true := by
  unfold Memory.put
  split
  · exact Memory.wfFrom_mono h (by omega)
  · rename_i hv
    simp [Memory.wfFrom, hlo, ha, hv, h]

theorem Memory.write_wfFrom {m : Memory} {lo a : Nat} {v : Byte} (h : m.wfFrom lo = true) (hlo : lo ≤ a)
    (ha : a < memoryBound) : (m.write a v).wfFrom lo = true := by
  induction m generalizing lo with
  | nil => exact Memory.put_wfFrom rfl hlo ha
  | cons c rest ih =>
    obtain ⟨k, b⟩ := c
    have h' := h
    simp only [Memory.wfFrom, Bool.and_eq_true, decide_eq_true_eq] at h'
    simp only [Memory.write]
    split
    · refine Memory.put_wfFrom ?_ hlo ha
      simp only [Memory.wfFrom, Bool.and_eq_true, decide_eq_true_eq]
      exact ⟨⟨⟨by omega, h'.1.1.2⟩, h'.1.2⟩, h'.2⟩
    · split
      · rename_i hk
        exact Memory.put_wfFrom (hk ▸ h'.2) hlo ha
      · simp only [Memory.wfFrom, Bool.and_eq_true, decide_eq_true_eq]
        exact ⟨h'.1, ih h'.2 (by omega)⟩

/-- A write keeps the canonical form. -/
theorem Memory.write_wf {m : Memory} {a : Nat} {v : Byte} (h : m.wf = true) (ha : a < memoryBound) :
    (m.write a v).wf = true := Memory.write_wfFrom h (Nat.zero_le a) ha

theorem Memory.read_put_same {rest : Memory} {a : Nat} {v : Byte} (h : rest.wfFrom (a + 1) = true) :
    (Memory.put a v rest).read a = v := by
  unfold Memory.put
  split
  · rename_i hv
    rw [Memory.read_below h (by omega), hv]
  · simp [Memory.read]

theorem Memory.read_put_other {rest : Memory} {a k : Nat} {v : Byte} (hk : k ≠ a) :
    (Memory.put a v rest).read k = rest.read k := by
  unfold Memory.put
  split
  · rfl
  · simp [Memory.read, hk.symm]

theorem Memory.read_write_same_from {m : Memory} {lo a : Nat} {v : Byte} (h : m.wfFrom lo = true) :
    (m.write a v).read a = v := by
  induction m generalizing lo with
  | nil => exact Memory.read_put_same rfl
  | cons c rest ih =>
    obtain ⟨k, b⟩ := c
    have h' := h
    simp only [Memory.wfFrom, Bool.and_eq_true, decide_eq_true_eq] at h'
    simp only [Memory.write]
    split
    · refine Memory.read_put_same ?_
      simp only [Memory.wfFrom, Bool.and_eq_true, decide_eq_true_eq]
      exact ⟨⟨⟨by omega, h'.1.1.2⟩, h'.1.2⟩, h'.2⟩
    · split
      · rename_i hk
        exact Memory.read_put_same (hk ▸ h'.2)
      · rename_i hk
        simp only [Memory.read, if_neg (fun h : k = a => hk h.symm)]
        exact ih h'.2

/-- A read of the address just written gives the value written. -/
theorem Memory.read_write_same {m : Memory} (h : m.wf = true) (a : Nat) (v : Byte) : (m.write a v).read a = v :=
  Memory.read_write_same_from h

/-- A write leaves every other address alone. -/
theorem Memory.read_write_other (m : Memory) {a k : Nat} (v : Byte) (hk : k ≠ a) :
    (m.write a v).read k = m.read k := by
  induction m with
  | nil => exact Memory.read_put_other hk
  | cons c rest ih =>
    obtain ⟨k', b⟩ := c
    simp only [Memory.write]
    split
    · exact Memory.read_put_other hk
    · split
      · rename_i hk'
        rw [Memory.read_put_other hk, Memory.read, if_neg (fun h : k' = k => hk (h.symm.trans hk'.symm))]
      · simp only [Memory.read, ih]

theorem Memory.ext_from {m m' : Memory} {lo : Nat} (h : m.wfFrom lo = true) (h' : m'.wfFrom lo = true)
    (hr : ∀ k, m.read k = m'.read k) : m = m' := by
  induction m generalizing lo m' with
  | nil =>
    cases m' with
    | nil => rfl
    | cons c rest =>
      obtain ⟨k, b⟩ := c
      simp only [Memory.wfFrom, Bool.and_eq_true, decide_eq_true_eq] at h'
      have := hr k
      simp [Memory.read] at this
      exact absurd this.symm h'.1.2
  | cons c rest ih =>
    obtain ⟨k, b⟩ := c
    simp only [Memory.wfFrom, Bool.and_eq_true, decide_eq_true_eq] at h
    cases m' with
    | nil =>
      have := hr k
      simp [Memory.read] at this
      exact absurd this h.1.2
    | cons c' rest' =>
      obtain ⟨k', b'⟩ := c'
      have hw' := h'
      simp only [Memory.wfFrom, Bool.and_eq_true, decide_eq_true_eq] at h'
      have hkk : k = k' := by
        by_contra hne
        rcases Nat.lt_or_gt_of_ne hne with hlt | hgt
        · have := hr k
          rw [show Memory.read ((k, b) :: rest) k = b by simp [Memory.read],
            Memory.read_below (lo := k') (m := (k', b') :: rest')
              (by simp only [Memory.wfFrom, Bool.and_eq_true, decide_eq_true_eq]
                  exact ⟨⟨⟨Nat.le_refl _, h'.1.1.2⟩, h'.1.2⟩, h'.2⟩) hlt] at this
          exact h.1.2 this
        · have := hr k'
          rw [show Memory.read ((k', b') :: rest') k' = b' by simp [Memory.read],
            Memory.read_below (lo := k) (m := (k, b) :: rest)
              (by simp only [Memory.wfFrom, Bool.and_eq_true, decide_eq_true_eq]
                  exact ⟨⟨⟨Nat.le_refl _, h.1.1.2⟩, h.1.2⟩, h.2⟩) hgt] at this
          exact h'.1.2 this.symm
      subst hkk
      have hb : b = b' := by simpa [Memory.read] using hr k
      subst hb
      have : rest = rest' := ih h.2 h'.2 (fun j => by
        by_cases hj : k = j
        · subst hj
          rw [Memory.read_below h.2 (by omega), Memory.read_below h'.2 (by omega)]
        · simpa [Memory.read, hj] using hr j)
      rw [this]

/-- Canonical memories that read alike at every address are equal data. -/
theorem Memory.ext_of_wf {m m' : Memory} (h : m.wf = true) (h' : m'.wf = true) (hr : ∀ k, m.read k = m'.read k) :
    m = m' := Memory.ext_from h h' hr

/-- A byte string written from `base` on keeps the canonical form when it ends inside the address space. -/
theorem Memory.writeBytes_wf {bytes : List Byte} {m : Memory} {base : Nat} (h : m.wf = true)
    (hb : base + bytes.length ≤ memoryBound) : (m.writeBytes base bytes).wf = true := by
  induction bytes generalizing m base with
  | nil => exact h
  | cons b rest ih =>
    simp only [List.length_cons] at hb
    exact ih (Memory.write_wf h (by omega)) (by omega)

/-- Overrides inside the address space keep the canonical form. -/
theorem Memory.override_wf {kvs : List (Nat × Nat)} {m : Memory} (h : m.wf = true)
    (hk : ∀ kv ∈ kvs, kv.1 < memoryBound) : (m.override kvs).wf = true := by
  induction kvs generalizing m with
  | nil => exact h
  | cons kv rest ih =>
    obtain ⟨k, v⟩ := kv
    exact ih (Memory.write_wf h (hk _ (List.mem_cons_self ..))) (fun kv hkv => hk kv (List.mem_cons_of_mem _ hkv))

/-- `MemWrite` keeps the canonical form: a word is an address of the space. -/
theorem memWrite_wf {s : State} (h : s.mem.wf = true) (k : Word) (v : Byte) : (memWrite s k v).mem.wf = true :=
  Memory.write_wf h (by have := k.isLt; simp only [memoryBound]; omega)

theorem memRead_memWrite_same {s : State} (h : s.mem.wf = true) (k : Word) (v : Byte) :
    memRead (memWrite s k v) k = v := Memory.read_write_same h ..

theorem memRead_memWrite_other (s : State) {k p : Word} (v : Byte) (hp : p ≠ k) :
    memRead (memWrite s k v) p = memRead s p :=
  Memory.read_write_other _ _ (fun h => hp (BitVec.eq_of_toNat_eq h))

/-- A push keeps the canonical form. -/
theorem push_wf {s : State} (h : s.mem.wf = true) (v : Byte) : (push v s).mem.wf = true := memWrite_wf h ..

/-- A 16-bit push keeps the canonical form. -/
theorem pushWord_wf {s : State} (h : s.mem.wf = true) (w : Word) : (pushWord w s).mem.wf = true := push_wf (push_wf h _) _

/-- The memory after reset is canonical. -/
theorem reset_mem_wf : State.reset.mem.wf = true := rfl

end Sys2Proof.Machine
end

