-- ==== Sys2Proof/Laws/Ops.lean ====
section
/-! SUPPORT. One lemma per shared operation that says everything it can do: byte order, ending a step, branches, the
resolver, operand writes, the stack, and entry through the BRK vector and return. -/

namespace Sys2Proof.Machine

/-! Byte order. -/

theorem loByte_joinBytes (lo hi : Byte) : loByte (joinBytes lo hi) = lo := by
  ext i hi'
  simp [loByte, joinBytes]

theorem hiByte_joinBytes (lo hi : Byte) : hiByte (joinBytes lo hi) = hi := by
  ext i hi'
  simp [hiByte, joinBytes, hi', show 8 + i < 16 by omega]

theorem joinBytes_lo_hi (w : Word) : joinBytes (loByte w) (hiByte w) = w := by
  ext i hi'
  by_cases h8 : i < 8
  · simp [loByte, hiByte, joinBytes, h8, hi']
  · simp [loByte, hiByte, joinBytes, h8, hi', show i - 8 < 8 by omega, show 8 + (i - 8) = i by omega]

/-! Ending a step. -/

/-- `complete` answers a next state: the cycles and the outcome, nothing else. -/
theorem complete_eq (i : Instr) (extra : Nat) (out : StepOutcome) (s : State) :
    complete i extra out s
      = .next { s with totalCycles := s.totalCycles + (i.baseCycles s.params + extra), outcome := out } := rfl

/-- What a completed step answers, read backwards. -/
theorem complete_next {i : Instr} {extra : Nat} {out : StepOutcome} {s t : State}
    (h : complete i extra out s = .next t) :
    t = { s with totalCycles := s.totalCycles + (i.baseCycles s.params + extra), outcome := out } := by
  simpa [complete] using h.symm

/-- `raiseFault` answers the state with the record and nothing else. -/
theorem raiseFault_next {f : FaultRecord} {s t : State} (h : raiseFault f s = .next t) :
    t = { s with fault := some f } := by
  simpa [raiseFault] using h.symm

/-- A branch that is not taken leaves PC at PC_next and costs nothing extra. -/
theorem completeBranch_false (i : Instr) (target : Word) (s : State) :
    completeBranch i false target s = complete i 0 .cont s := rfl

/-- A taken branch loads PC and costs 1, or 2 into another page than PC_next. -/
theorem completeBranch_true (i : Instr) (target : Word) (s : State) :
    completeBranch i true target s
      = complete i (if hiByte target = hiByte s.pc then 1 else 2) .cont (setPc target s) := rfl

/-! The resolver reads X, Y and memory; an operand read also A. -/

theorem resolveEa_congr {s t : State} (hx : s.x = t.x) (hy : s.y = t.y) (hm : s.mem = t.mem) (ea : Ea) :
    resolveEa ea s = resolveEa ea t := by
  cases ea <;> simp [resolveEa, memReadZp16, memRead, hx, hy, hm]

theorem readSrc_congr {s t : State} (hx : s.x = t.x) (hy : s.y = t.y) (hm : s.mem = t.mem) (op : Src) :
    readSrc op s = readSrc op t := by
  cases op <;> simp [readSrc, memRead, resolveEa_congr hx hy hm, hm]

theorem readRmw_congr {s t : State} (ha : s.a = t.a) (hx : s.x = t.x) (hy : s.y = t.y) (hm : s.mem = t.mem)
    (op : Rmw) : readRmw op s = readRmw op t := by
  cases op <;> simp [readRmw, memRead, resolveEa_congr hx hy hm, ha, hm]

theorem jumpTarget_congr {s t : State} (hx : s.x = t.x) (hm : s.mem = t.mem) (op : JmpOperand) :
    jumpTarget op s = jumpTarget op t := by
  cases op <;> simp [jumpTarget, memRead16, memRead, hx, hm]

@[simp] theorem resolveEa_fetchOperands (ea : Ea) (i : Instr) (s : State) :
    resolveEa ea (fetchOperands i s) = resolveEa ea s := resolveEa_congr rfl rfl rfl ea

@[simp] theorem resolveEa_setFlags (ea : Ea) (f : Flags) (s : State) :
    resolveEa ea (setFlags f s) = resolveEa ea s := resolveEa_congr rfl rfl rfl ea

@[simp] theorem readSrc_fetchOperands (op : Src) (i : Instr) (s : State) :
    readSrc op (fetchOperands i s) = readSrc op s := readSrc_congr rfl rfl rfl op

@[simp] theorem readRmw_fetchOperands (op : Rmw) (i : Instr) (s : State) :
    readRmw op (fetchOperands i s) = readRmw op s := readRmw_congr rfl rfl rfl rfl op

@[simp] theorem jumpTarget_fetchOperands (op : JmpOperand) (i : Instr) (s : State) :
    jumpTarget op (fetchOperands i s) = jumpTarget op s := jumpTarget_congr rfl rfl op

/-- Only the three modes with a 16-bit index report a page cross (41 R101). -/
theorem resolveEa_crossed {ea : Ea} {s : State} (h : (resolveEa ea s).crossed = true) :
    (∃ w, ea = .absX w) ∨ (∃ w, ea = .absY w) ∨ ∃ b, ea = .zpIndY b := by
  cases ea <;> simp_all [resolveEa, Resolved.plain]

/-- Writing through an operand changes A or the byte at its address, and Z and N. -/
theorem writeRmw_acc (v : Byte) (s : State) : writeRmw .acc v s = { s with a := v, flags := s.flags.withZN v } := rfl

theorem writeRmw_mem (ea : Ea) (v : Byte) (s : State) :
    writeRmw (.mem ea) v s
      = { s with mem := s.mem.write (resolveEa ea s).addr.toNat v, flags := s.flags.withZN v } := rfl

theorem writeRmw_wf {s : State} (h : s.mem.wf = true) (op : Rmw) (v : Byte) : (writeRmw op v s).mem.wf = true := by
  cases op
  · exact h
  · exact memWrite_wf h ..

/-! The stack. -/

/-- What a push does: S steps down and the byte lies at the old stack address. -/
theorem push_eq (v : Byte) (s : State) :
    push v s = { s with sp := s.sp - 1, mem := s.mem.write (stackAddr s.sp).toNat v } := rfl

/-- A pull after a push gives the byte back. -/
theorem pulled_push {s : State} (h : s.mem.wf = true) (v : Byte) : pulled (push v s) = v := by
  have : s.sp - 1 + 1 = s.sp := by simp
  simp only [pulled, push_sp, this]
  exact memRead_memWrite_same h ..

theorem afterPull_push_sp (v : Byte) (s : State) : (afterPull (push v s)).sp = s.sp := by simp

/-- The stack address lies in page 1 and tells S. -/
theorem stackAddr_toNat (sp : Byte) : (stackAddr sp).toNat = 256 + sp.toNat := by
  have := sp.isLt
  simp [stackAddr, zext16, BitVec.toNat_add]
  omega

theorem stackAddr_inj {p q : Byte} (h : stackAddr p = stackAddr q) : p = q := by
  have := congrArg BitVec.toNat h
  rw [stackAddr_toNat, stackAddr_toNat] at this
  exact BitVec.eq_of_toNat_eq (by omega)

/-- Entry through the BRK vector: three bytes are pushed, I is set and D cleared, PC comes from the vector. -/
theorem enterBrk_eq (ret : Word) (s : State) :
    enterBrk ret s =
      { s with
        sp := s.sp - 1 - 1 - 1,
        mem := (push s.flags.pushedByte (pushWord ret s)).mem,
        flags := { s.flags with i := true, d := false },
        pc := memRead16 (push s.flags.pushedByte (pushWord ret s)) brkVector } := by
  simp only [enterBrk, memRead16, setPc, setFlags, push, pushWord, setSp, memWrite, memRead]

/-- Return from it: three bytes are pulled, into P, then PC. -/
theorem returnFromBrk_eq (s : State) :
    returnFromBrk s =
      { s with
        sp := s.sp + 1 + 1 + 1,
        flags := Flags.unpack (pulled s),
        pc := joinBytes (pulled (afterPull s)) (pulled (afterPull (afterPull s))) } := rfl

theorem enterBrk_wf {s : State} (h : s.mem.wf = true) (ret : Word) : (enterBrk ret s).mem.wf = true := by
  rw [enterBrk_eq]
  exact push_wf (pushWord_wf h ret) _

/-! Fetching. -/

/-- The fetched instruction is decoded from the three bytes at PC, PC + 1 and PC + 2. -/
theorem fetchInstr_eq (s : State) :
    fetchInstr s
      = decodeBytes s.params.debugOpcodes (memRead s s.pc) (memRead s (s.pc + 1)) (memRead s (s.pc + 1 + 1)) := rfl

/-- A 16-bit PC never meets the bound check (20 R57). -/
theorem pcBeyondMemory_eq_false (pc : Word) : pcBeyondMemory pc = false := by
  have := pc.isLt
  exact decide_eq_false (by simp only [memoryBound]; omega)

end Sys2Proof.Machine
end

