-- ==== Sys2Proof/Laws/PerInstr.lean ====
section
/-! SUPPORT. Per instruction: the encoding of a well-formed instruction has the instruction's length (30_encoding.md R61). -/

namespace Sys2Proof.Laws

theorem opBytes_length_ea (ea : Ea) : ea.bytes.length = ea.mode.operandBytes := by
  cases ea <;> rfl

theorem opBytes_length_src (op : Src) : op.bytes.length = op.mode.operandBytes := by
  cases op with
  | imm _ => rfl
  | mem ea => exact opBytes_length_ea ea

theorem opBytes_length_rmw (op : Rmw) : op.bytes.length = op.mode.operandBytes := by
  cases op with
  | acc => rfl
  | mem ea => exact opBytes_length_ea ea

theorem opBytes_length_jmp (op : JmpOperand) : op.bytes.length = op.mode.operandBytes := by
  cases op <;> rfl

theorem opBytes_length_undef (form : UndefForm) : form.bytes.length = form.mode.operandBytes := by
  cases form <;> rfl

/-- An instruction that has an opcode is encoded in one byte more than its operand bytes. -/
theorem encode_length_of {dbg : DebugOpcodes} {i : Instr} {b : Byte} (hop : i.opcode dbg = some b)
    (hb : i.bytes.length = i.operandBytes) : (encode dbg i).length = i.length := by
  simp [encode, hop, hb, Instr.length, Nat.add_comm]

/-- A mode of a list of rows has an opcode in it. -/
theorem opcodeFor_isSome {mode : AddrMode} {pairs : List (AddrMode × Byte)} (h : mode ∈ pairs.map Prod.fst) :
    ∃ b, opcodeFor mode pairs = some b := by
  have : (pairs.find? (fun p => decide (p.1 = mode))).isSome := by
    rw [List.find?_isSome]
    obtain ⟨p, hp, rfl⟩ := List.mem_map.mp h
    exact ⟨p, hp, by simp⟩
  obtain ⟨p, hp⟩ := Option.isSome_iff_exists.mp this
  exact ⟨p.2, by simp [opcodeFor, hp]⟩

/-- The mode of a well-formed instruction is one its mnemonic accepts. -/
theorem mode_mem_of_wellFormed {dbg : DebugOpcodes} {i : Instr} (h : i.wellFormed dbg = true) :
    i.mode ∈ i.mnemonic.allowedModes := by
  simp only [Instr.wellFormed, Bool.and_eq_true, decide_eq_true_eq] at h
  exact h.1

/-- Two lists of modes with the same elements, compared by evaluation. -/
theorem mem_of_all {mode : AddrMode} {l l' : List AddrMode} (hm : mode ∈ l) (h : l.all (fun m => decide (m ∈ l')) = true) :
    mode ∈ l' := by
  simpa using List.all_eq_true.mp h mode hm

namespace EncodedLength

/-- A well-formed instruction is encoded in `length` bytes. -/
def Statement (i : Instr) : Prop := ∀ dbg : DebugOpcodes, i.wellFormed dbg = true → (encode dbg i).length = i.length

theorem lda (op : Src) : Statement (.lda op) := fun _ h =>
  (opcodeFor_isSome (mem_of_all (mode_mem_of_wellFormed h) rfl)).elim
    (fun _ hb => encode_length_of hb (opBytes_length_src op))

theorem ldx (op : Src) : Statement (.ldx op) := fun _ h =>
  (opcodeFor_isSome (mem_of_all (mode_mem_of_wellFormed h) rfl)).elim
    (fun _ hb => encode_length_of hb (opBytes_length_src op))

theorem ldy (op : Src) : Statement (.ldy op) := fun _ h =>
  (opcodeFor_isSome (mem_of_all (mode_mem_of_wellFormed h) rfl)).elim
    (fun _ hb => encode_length_of hb (opBytes_length_src op))

theorem sta (ea : Ea) : Statement (.sta ea) := fun _ h =>
  (opcodeFor_isSome (mem_of_all (mode_mem_of_wellFormed h) rfl)).elim
    (fun _ hb => encode_length_of hb (opBytes_length_ea ea))

theorem stx (ea : Ea) : Statement (.stx ea) := fun _ h =>
  (opcodeFor_isSome (mem_of_all (mode_mem_of_wellFormed h) rfl)).elim
    (fun _ hb => encode_length_of hb (opBytes_length_ea ea))

theorem sty (ea : Ea) : Statement (.sty ea) := fun _ h =>
  (opcodeFor_isSome (mem_of_all (mode_mem_of_wellFormed h) rfl)).elim
    (fun _ hb => encode_length_of hb (opBytes_length_ea ea))

theorem stz (ea : Ea) : Statement (.stz ea) := fun _ h =>
  (opcodeFor_isSome (mem_of_all (mode_mem_of_wellFormed h) rfl)).elim
    (fun _ hb => encode_length_of hb (opBytes_length_ea ea))

theorem tax : Statement (.tax) := fun _ _ => rfl

theorem tay : Statement (.tay) := fun _ _ => rfl

theorem txa : Statement (.txa) := fun _ _ => rfl

theorem tya : Statement (.tya) := fun _ _ => rfl

theorem tsx : Statement (.tsx) := fun _ _ => rfl

theorem txs : Statement (.txs) := fun _ _ => rfl

theorem pha : Statement (.pha) := fun _ _ => rfl

theorem phx : Statement (.phx) := fun _ _ => rfl

theorem phy : Statement (.phy) := fun _ _ => rfl

theorem php : Statement (.php) := fun _ _ => rfl

theorem pla : Statement (.pla) := fun _ _ => rfl

theorem plx : Statement (.plx) := fun _ _ => rfl

theorem ply : Statement (.ply) := fun _ _ => rfl

theorem plp : Statement (.plp) := fun _ _ => rfl

theorem adc (op : Src) : Statement (.adc op) := fun _ h =>
  (opcodeFor_isSome (mem_of_all (mode_mem_of_wellFormed h) rfl)).elim
    (fun _ hb => encode_length_of hb (opBytes_length_src op))

theorem sbc (op : Src) : Statement (.sbc op) := fun _ h =>
  (opcodeFor_isSome (mem_of_all (mode_mem_of_wellFormed h) rfl)).elim
    (fun _ hb => encode_length_of hb (opBytes_length_src op))

theorem and (op : Src) : Statement (.and op) := fun _ h =>
  (opcodeFor_isSome (mem_of_all (mode_mem_of_wellFormed h) rfl)).elim
    (fun _ hb => encode_length_of hb (opBytes_length_src op))

theorem ora (op : Src) : Statement (.ora op) := fun _ h =>
  (opcodeFor_isSome (mem_of_all (mode_mem_of_wellFormed h) rfl)).elim
    (fun _ hb => encode_length_of hb (opBytes_length_src op))

theorem eor (op : Src) : Statement (.eor op) := fun _ h =>
  (opcodeFor_isSome (mem_of_all (mode_mem_of_wellFormed h) rfl)).elim
    (fun _ hb => encode_length_of hb (opBytes_length_src op))

theorem cmp (op : Src) : Statement (.cmp op) := fun _ h =>
  (opcodeFor_isSome (mem_of_all (mode_mem_of_wellFormed h) rfl)).elim
    (fun _ hb => encode_length_of hb (opBytes_length_src op))

theorem cpx (op : Src) : Statement (.cpx op) := fun _ h =>
  (opcodeFor_isSome (mem_of_all (mode_mem_of_wellFormed h) rfl)).elim
    (fun _ hb => encode_length_of hb (opBytes_length_src op))

theorem cpy (op : Src) : Statement (.cpy op) := fun _ h =>
  (opcodeFor_isSome (mem_of_all (mode_mem_of_wellFormed h) rfl)).elim
    (fun _ hb => encode_length_of hb (opBytes_length_src op))

theorem bit (op : Src) : Statement (.bit op) := fun _ h =>
  (opcodeFor_isSome (mem_of_all (mode_mem_of_wellFormed h) rfl)).elim
    (fun _ hb => encode_length_of hb (opBytes_length_src op))

theorem tsb (ea : Ea) : Statement (.tsb ea) := fun _ h =>
  (opcodeFor_isSome (mem_of_all (mode_mem_of_wellFormed h) rfl)).elim
    (fun _ hb => encode_length_of hb (opBytes_length_ea ea))

theorem trb (ea : Ea) : Statement (.trb ea) := fun _ h =>
  (opcodeFor_isSome (mem_of_all (mode_mem_of_wellFormed h) rfl)).elim
    (fun _ hb => encode_length_of hb (opBytes_length_ea ea))

theorem inc (op : Rmw) : Statement (.inc op) := fun _ h =>
  (opcodeFor_isSome (mem_of_all (mode_mem_of_wellFormed h) rfl)).elim
    (fun _ hb => encode_length_of hb (opBytes_length_rmw op))

theorem dec (op : Rmw) : Statement (.dec op) := fun _ h =>
  (opcodeFor_isSome (mem_of_all (mode_mem_of_wellFormed h) rfl)).elim
    (fun _ hb => encode_length_of hb (opBytes_length_rmw op))

theorem inx : Statement (.inx) := fun _ _ => rfl

theorem iny : Statement (.iny) := fun _ _ => rfl

theorem dex : Statement (.dex) := fun _ _ => rfl

theorem dey : Statement (.dey) := fun _ _ => rfl

theorem asl (op : Rmw) : Statement (.asl op) := fun _ h =>
  (opcodeFor_isSome (mem_of_all (mode_mem_of_wellFormed h) rfl)).elim
    (fun _ hb => encode_length_of hb (opBytes_length_rmw op))

theorem lsr (op : Rmw) : Statement (.lsr op) := fun _ h =>
  (opcodeFor_isSome (mem_of_all (mode_mem_of_wellFormed h) rfl)).elim
    (fun _ hb => encode_length_of hb (opBytes_length_rmw op))

theorem rol (op : Rmw) : Statement (.rol op) := fun _ h =>
  (opcodeFor_isSome (mem_of_all (mode_mem_of_wellFormed h) rfl)).elim
    (fun _ hb => encode_length_of hb (opBytes_length_rmw op))

theorem ror (op : Rmw) : Statement (.ror op) := fun _ h =>
  (opcodeFor_isSome (mem_of_all (mode_mem_of_wellFormed h) rfl)).elim
    (fun _ hb => encode_length_of hb (opBytes_length_rmw op))

theorem rmb0 (zp8 : Byte) : Statement (.rmb0 zp8) := fun _ _ => rfl

theorem rmb1 (zp8 : Byte) : Statement (.rmb1 zp8) := fun _ _ => rfl

theorem rmb2 (zp8 : Byte) : Statement (.rmb2 zp8) := fun _ _ => rfl

theorem rmb3 (zp8 : Byte) : Statement (.rmb3 zp8) := fun _ _ => rfl

theorem rmb4 (zp8 : Byte) : Statement (.rmb4 zp8) := fun _ _ => rfl

theorem rmb5 (zp8 : Byte) : Statement (.rmb5 zp8) := fun _ _ => rfl

theorem rmb6 (zp8 : Byte) : Statement (.rmb6 zp8) := fun _ _ => rfl

theorem rmb7 (zp8 : Byte) : Statement (.rmb7 zp8) := fun _ _ => rfl

theorem smb0 (zp8 : Byte) : Statement (.smb0 zp8) := fun _ _ => rfl

theorem smb1 (zp8 : Byte) : Statement (.smb1 zp8) := fun _ _ => rfl

theorem smb2 (zp8 : Byte) : Statement (.smb2 zp8) := fun _ _ => rfl

theorem smb3 (zp8 : Byte) : Statement (.smb3 zp8) := fun _ _ => rfl

theorem smb4 (zp8 : Byte) : Statement (.smb4 zp8) := fun _ _ => rfl

theorem smb5 (zp8 : Byte) : Statement (.smb5 zp8) := fun _ _ => rfl

theorem smb6 (zp8 : Byte) : Statement (.smb6 zp8) := fun _ _ => rfl

theorem smb7 (zp8 : Byte) : Statement (.smb7 zp8) := fun _ _ => rfl

theorem bcc (rel8 : Byte) : Statement (.bcc rel8) := fun _ _ => rfl

theorem bcs (rel8 : Byte) : Statement (.bcs rel8) := fun _ _ => rfl

theorem beq (rel8 : Byte) : Statement (.beq rel8) := fun _ _ => rfl

theorem bne (rel8 : Byte) : Statement (.bne rel8) := fun _ _ => rfl

theorem bmi (rel8 : Byte) : Statement (.bmi rel8) := fun _ _ => rfl

theorem bpl (rel8 : Byte) : Statement (.bpl rel8) := fun _ _ => rfl

theorem bvc (rel8 : Byte) : Statement (.bvc rel8) := fun _ _ => rfl

theorem bvs (rel8 : Byte) : Statement (.bvs rel8) := fun _ _ => rfl

theorem bra (rel8 : Byte) : Statement (.bra rel8) := fun _ _ => rfl

theorem bbr0 (zp8 rel8 : Byte) : Statement (.bbr0 zp8 rel8) := fun _ _ => rfl

theorem bbr1 (zp8 rel8 : Byte) : Statement (.bbr1 zp8 rel8) := fun _ _ => rfl

theorem bbr2 (zp8 rel8 : Byte) : Statement (.bbr2 zp8 rel8) := fun _ _ => rfl

theorem bbr3 (zp8 rel8 : Byte) : Statement (.bbr3 zp8 rel8) := fun _ _ => rfl

theorem bbr4 (zp8 rel8 : Byte) : Statement (.bbr4 zp8 rel8) := fun _ _ => rfl

theorem bbr5 (zp8 rel8 : Byte) : Statement (.bbr5 zp8 rel8) := fun _ _ => rfl

theorem bbr6 (zp8 rel8 : Byte) : Statement (.bbr6 zp8 rel8) := fun _ _ => rfl

theorem bbr7 (zp8 rel8 : Byte) : Statement (.bbr7 zp8 rel8) := fun _ _ => rfl

theorem bbs0 (zp8 rel8 : Byte) : Statement (.bbs0 zp8 rel8) := fun _ _ => rfl

theorem bbs1 (zp8 rel8 : Byte) : Statement (.bbs1 zp8 rel8) := fun _ _ => rfl

theorem bbs2 (zp8 rel8 : Byte) : Statement (.bbs2 zp8 rel8) := fun _ _ => rfl

theorem bbs3 (zp8 rel8 : Byte) : Statement (.bbs3 zp8 rel8) := fun _ _ => rfl

theorem bbs4 (zp8 rel8 : Byte) : Statement (.bbs4 zp8 rel8) := fun _ _ => rfl

theorem bbs5 (zp8 rel8 : Byte) : Statement (.bbs5 zp8 rel8) := fun _ _ => rfl

theorem bbs6 (zp8 rel8 : Byte) : Statement (.bbs6 zp8 rel8) := fun _ _ => rfl

theorem bbs7 (zp8 rel8 : Byte) : Statement (.bbs7 zp8 rel8) := fun _ _ => rfl

theorem jmp (op : JmpOperand) : Statement (.jmp op) := fun _ h =>
  (opcodeFor_isSome (mem_of_all (mode_mem_of_wellFormed h) rfl)).elim
    (fun _ hb => encode_length_of hb (opBytes_length_jmp op))

theorem jsr (addr : Word) : Statement (.jsr addr) := fun _ _ => rfl

theorem rts : Statement (.rts) := fun _ _ => rfl

theorem rti : Statement (.rti) := fun _ _ => rfl

theorem brk : Statement (.brk) := fun _ _ => rfl

theorem clc : Statement (.clc) := fun _ _ => rfl

theorem sec : Statement (.sec) := fun _ _ => rfl

theorem cld : Statement (.cld) := fun _ _ => rfl

theorem sed : Statement (.sed) := fun _ _ => rfl

theorem cli : Statement (.cli) := fun _ _ => rfl

theorem sei : Statement (.sei) := fun _ _ => rfl

theorem clv : Statement (.clv) := fun _ _ => rfl

theorem nop : Statement (.nop) := fun _ _ => rfl

theorem wai : Statement (.wai) := fun _ _ => rfl

theorem stp : Statement (.stp) := fun _ _ => rfl

theorem undefined (form : UndefForm) : Statement (.undefined form) := fun _ _ =>
  encode_length_of rfl (opBytes_length_undef form)

theorem opBreakpoint : Statement .opBreakpoint := fun dbg h => by
  have hs : dbg.breakpoint.isSome = true := by
    simp only [Instr.wellFormed, Bool.and_eq_true] at h
    exact h.2
  obtain ⟨b, hb⟩ := Option.isSome_iff_exists.mp hs
  exact encode_length_of (b := b) hb rfl

theorem opRegdump : Statement .opRegdump := fun dbg h => by
  have hs : dbg.regdump.isSome = true := by
    simp only [Instr.wellFormed, Bool.and_eq_true] at h
    exact h.2
  obtain ⟨b, hb⟩ := Option.isSome_iff_exists.mp hs
  exact encode_length_of (b := b) hb rfl

theorem opMemdump : Statement .opMemdump := fun dbg h => by
  have hs : dbg.memdump.isSome = true := by
    simp only [Instr.wellFormed, Bool.and_eq_true] at h
    exact h.2
  obtain ⟨b, hb⟩ := Option.isSome_iff_exists.mp hs
  exact encode_length_of (b := b) hb rfl

end EncodedLength

end Sys2Proof.Laws
end

