-- ==== Sys2Proof/Tests/Slice0.lean ====
section
/-! SUPPORT. The model's own tests: the well-formedness checks, the words of the opcode table, the one-step vectors of
95_test_vectors.md, the host operations and the controller, and a witness for the hypotheses of every statement. Every
expected result is the spec's (opcode_table.json, 95_test_vectors.md, or the rule named), not the model's. -/

namespace Sys2Proof.Tests

open Sys2Proof Sys2Proof.Machine Sys2Proof.Spec

-- One declaration after the other: elaborated at once, each `decide +kernel` would hold a thread of its own.
set_option Elab.async false

/-- An assignment of all three debug opcodes: the two of 95 section 2, and a third value. -/
def debugAll : DebugOpcodes := { breakpoint := some 0xFB, regdump := some 0xEB, memdump := some 0x42 }

def wdcNopParams : Params := { Params.standard with undefPolicy := .wdcNop }

def vectoredParams : Params := { Params.standard with brkMode := .vectored }

def debugParams : Params := { Params.standard with debugOpcodes := debugAll, debugCycles := 77 }

/-! Well-formedness: each check refuses an ill-formed term. -/

/-- A mode that the mnemonic has no row for (41 R120). -/
theorem test_wf_refuses_mode :
    [Instr.sta (.zpY 0x10), .ldx (.mem (.zpX 0x10)), .cpx (.mem (.zpX 0x10)), .bit (.mem (.absY 0x1234)),
      .inc (.mem (.zpInd 0x10)), .stz (.absY 0x1234), .tsb (.zpX 0x10)].all (fun i => !i.wellFormed .absent) = true := by
  decide +kernel

/-- An undefined value whose form is not its own (30 R65). -/
theorem test_wf_refuses_undefined_form :
    [UndefForm.one 0x02, .imm 0x03 0x00, .zp 0x54 0x00, .zpX 0x44 0x00, .abs 0xEB 0x0000, .one 0xEA].all
      (fun form => !(Instr.undefined form).wellFormed .absent) = true := by decide +kernel

/-- An undefined value that a debug opcode takes (30 R72). -/
theorem test_wf_refuses_taken_value :
    (Instr.undefined (.one 0xFB)).wellFormed .absent = true ∧ (Instr.undefined (.one 0xFB)).wellFormed debugAll = false := by
  decide +kernel

/-- A debug opcode that has no value (46 R275 to R277). -/
theorem test_wf_refuses_unassigned_debug_opcode :
    [Instr.opBreakpoint, .opRegdump, .opMemdump].all
      (fun i => !i.wellFormed .absent && i.wellFormed debugAll) = true := by decide +kernel

/-- An assignment of a defined opcode, and of one value twice (00 R6, 30 R72). -/
theorem test_wf_refuses_debug_assignment :
    DebugOpcodes.wf { breakpoint := some 0xEA, regdump := none, memdump := none } = false ∧
    DebugOpcodes.wf { breakpoint := some 0xFB, regdump := some 0xFB, memdump := none } = false ∧
    DebugOpcodes.wf debugAll = true ∧ Params.wf debugParams = true := by decide +kernel

/-- Memory that is out of order, lists a 0x00, or lists an address outside the space. -/
theorem test_wf_refuses_memory :
    Memory.wf [(2, 1), (1, 1)] = false ∧ Memory.wf [(1, 0)] = false ∧ Memory.wf [(65536, 1)] = false ∧
    Memory.wf [(1, 1), (65535, 2)] = true := by decide +kernel

/-! Decoding, with the operand bytes 0x12 and 0x34, and encoding back. -/

/-- The word decodes to the instruction, nothing is left, and the instruction's encoding is the word. -/
def decodesTo (row : List Byte × Instr) : Bool :=
  decide (encode .absent row.2 = row.1) &&
  match decode .absent row.1 with
  | .ok (i, rest) => decide (i = row.2) && decide (rest = [])
  | .error _ => false

/-- Words of loads, stores, transfers and stack, from the opcode table (30 R64, R65). -/
def loadsWords1 : List (List Byte × Instr) :=
  [([0x08], .php), ([0x28], .plp), ([0x48], .pha), ([0x5A], .phy), ([0x64, 0x12], .stz (.zp 0x12)), ([0x68], .pla),
   ([0x74, 0x12], .stz (.zpX 0x12)), ([0x7A], .ply), ([0x81, 0x12], .sta (.zpXInd 0x12)),
   ([0x84, 0x12], .sty (.zp 0x12)), ([0x85, 0x12], .sta (.zp 0x12)), ([0x86, 0x12], .stx (.zp 0x12)), ([0x8A], .txa),
   ([0x8C, 0x12, 0x34], .sty (.abs 0x3412)), ([0x8D, 0x12, 0x34], .sta (.abs 0x3412)),
   ([0x8E, 0x12, 0x34], .stx (.abs 0x3412)), ([0x91, 0x12], .sta (.zpIndY 0x12)), ([0x92, 0x12], .sta (.zpInd 0x12)),
   ([0x94, 0x12], .sty (.zpX 0x12)), ([0x95, 0x12], .sta (.zpX 0x12))]

/-- Words of loads, stores, transfers and stack, from the opcode table (30 R64, R65). -/
def loadsWords2 : List (List Byte × Instr) :=
  [([0x96, 0x12], .stx (.zpY 0x12)), ([0x98], .tya), ([0x99, 0x12, 0x34], .sta (.absY 0x3412)), ([0x9A], .txs),
   ([0x9C, 0x12, 0x34], .stz (.abs 0x3412)), ([0x9D, 0x12, 0x34], .sta (.absX 0x3412)),
   ([0x9E, 0x12, 0x34], .stz (.absX 0x3412)), ([0xA0, 0x12], .ldy (.imm 0x12)),
   ([0xA1, 0x12], .lda (.mem (.zpXInd 0x12))), ([0xA2, 0x12], .ldx (.imm 0x12)),
   ([0xA4, 0x12], .ldy (.mem (.zp 0x12))), ([0xA5, 0x12], .lda (.mem (.zp 0x12))),
   ([0xA6, 0x12], .ldx (.mem (.zp 0x12))), ([0xA8], .tay), ([0xA9, 0x12], .lda (.imm 0x12)), ([0xAA], .tax),
   ([0xAC, 0x12, 0x34], .ldy (.mem (.abs 0x3412))), ([0xAD, 0x12, 0x34], .lda (.mem (.abs 0x3412))),
   ([0xAE, 0x12, 0x34], .ldx (.mem (.abs 0x3412))), ([0xB1, 0x12], .lda (.mem (.zpIndY 0x12)))]

/-- Words of loads, stores, transfers and stack, from the opcode table (30 R64, R65). -/
def loadsWords3 : List (List Byte × Instr) :=
  [([0xB2, 0x12], .lda (.mem (.zpInd 0x12))), ([0xB4, 0x12], .ldy (.mem (.zpX 0x12))),
   ([0xB5, 0x12], .lda (.mem (.zpX 0x12))), ([0xB6, 0x12], .ldx (.mem (.zpY 0x12))),
   ([0xB9, 0x12, 0x34], .lda (.mem (.absY 0x3412))), ([0xBA], .tsx), ([0xBC, 0x12, 0x34], .ldy (.mem (.absX 0x3412))),
   ([0xBD, 0x12, 0x34], .lda (.mem (.absX 0x3412))), ([0xBE, 0x12, 0x34], .ldx (.mem (.absY 0x3412))), ([0xDA], .phx),
   ([0xFA], .plx)]

theorem test_decode_loads_and_stores : (loadsWords1 ++ loadsWords2 ++ loadsWords3).all decodesTo = true := by decide +kernel

/-- Words of the arithmetic and logic instructions, from the opcode table (30 R64, R65). -/
def aluWords1 : List (List Byte × Instr) :=
  [([0x01, 0x12], .ora (.mem (.zpXInd 0x12))), ([0x04, 0x12], .tsb (.zp 0x12)),
   ([0x05, 0x12], .ora (.mem (.zp 0x12))), ([0x09, 0x12], .ora (.imm 0x12)), ([0x0C, 0x12, 0x34], .tsb (.abs 0x3412)),
   ([0x0D, 0x12, 0x34], .ora (.mem (.abs 0x3412))), ([0x11, 0x12], .ora (.mem (.zpIndY 0x12))),
   ([0x12, 0x12], .ora (.mem (.zpInd 0x12))), ([0x14, 0x12], .trb (.zp 0x12)),
   ([0x15, 0x12], .ora (.mem (.zpX 0x12))), ([0x19, 0x12, 0x34], .ora (.mem (.absY 0x3412))), ([0x1A], .inc .acc),
   ([0x1C, 0x12, 0x34], .trb (.abs 0x3412)), ([0x1D, 0x12, 0x34], .ora (.mem (.absX 0x3412))),
   ([0x21, 0x12], .and (.mem (.zpXInd 0x12))), ([0x24, 0x12], .bit (.mem (.zp 0x12))),
   ([0x25, 0x12], .and (.mem (.zp 0x12))), ([0x29, 0x12], .and (.imm 0x12)),
   ([0x2C, 0x12, 0x34], .bit (.mem (.abs 0x3412))), ([0x2D, 0x12, 0x34], .and (.mem (.abs 0x3412)))]

/-- Words of the arithmetic and logic instructions, from the opcode table (30 R64, R65). -/
def aluWords2 : List (List Byte × Instr) :=
  [([0x31, 0x12], .and (.mem (.zpIndY 0x12))), ([0x32, 0x12], .and (.mem (.zpInd 0x12))),
   ([0x34, 0x12], .bit (.mem (.zpX 0x12))), ([0x35, 0x12], .and (.mem (.zpX 0x12))),
   ([0x39, 0x12, 0x34], .and (.mem (.absY 0x3412))), ([0x3A], .dec .acc),
   ([0x3C, 0x12, 0x34], .bit (.mem (.absX 0x3412))), ([0x3D, 0x12, 0x34], .and (.mem (.absX 0x3412))),
   ([0x41, 0x12], .eor (.mem (.zpXInd 0x12))), ([0x45, 0x12], .eor (.mem (.zp 0x12))),
   ([0x49, 0x12], .eor (.imm 0x12)), ([0x4D, 0x12, 0x34], .eor (.mem (.abs 0x3412))),
   ([0x51, 0x12], .eor (.mem (.zpIndY 0x12))), ([0x52, 0x12], .eor (.mem (.zpInd 0x12))),
   ([0x55, 0x12], .eor (.mem (.zpX 0x12))), ([0x59, 0x12, 0x34], .eor (.mem (.absY 0x3412))),
   ([0x5D, 0x12, 0x34], .eor (.mem (.absX 0x3412))), ([0x61, 0x12], .adc (.mem (.zpXInd 0x12))),
   ([0x65, 0x12], .adc (.mem (.zp 0x12))), ([0x69, 0x12], .adc (.imm 0x12))]

/-- Words of the arithmetic and logic instructions, from the opcode table (30 R64, R65). -/
def aluWords3 : List (List Byte × Instr) :=
  [([0x6D, 0x12, 0x34], .adc (.mem (.abs 0x3412))), ([0x71, 0x12], .adc (.mem (.zpIndY 0x12))),
   ([0x72, 0x12], .adc (.mem (.zpInd 0x12))), ([0x75, 0x12], .adc (.mem (.zpX 0x12))),
   ([0x79, 0x12, 0x34], .adc (.mem (.absY 0x3412))), ([0x7D, 0x12, 0x34], .adc (.mem (.absX 0x3412))), ([0x88], .dey),
   ([0x89, 0x12], .bit (.imm 0x12)), ([0xC0, 0x12], .cpy (.imm 0x12)), ([0xC1, 0x12], .cmp (.mem (.zpXInd 0x12))),
   ([0xC4, 0x12], .cpy (.mem (.zp 0x12))), ([0xC5, 0x12], .cmp (.mem (.zp 0x12))),
   ([0xC6, 0x12], .dec (.mem (.zp 0x12))), ([0xC8], .iny), ([0xC9, 0x12], .cmp (.imm 0x12)), ([0xCA], .dex),
   ([0xCC, 0x12, 0x34], .cpy (.mem (.abs 0x3412))), ([0xCD, 0x12, 0x34], .cmp (.mem (.abs 0x3412))),
   ([0xCE, 0x12, 0x34], .dec (.mem (.abs 0x3412))), ([0xD1, 0x12], .cmp (.mem (.zpIndY 0x12)))]

/-- Words of the arithmetic and logic instructions, from the opcode table (30 R64, R65). -/
def aluWords4 : List (List Byte × Instr) :=
  [([0xD2, 0x12], .cmp (.mem (.zpInd 0x12))), ([0xD5, 0x12], .cmp (.mem (.zpX 0x12))),
   ([0xD6, 0x12], .dec (.mem (.zpX 0x12))), ([0xD9, 0x12, 0x34], .cmp (.mem (.absY 0x3412))),
   ([0xDD, 0x12, 0x34], .cmp (.mem (.absX 0x3412))), ([0xDE, 0x12, 0x34], .dec (.mem (.absX 0x3412))),
   ([0xE0, 0x12], .cpx (.imm 0x12)), ([0xE1, 0x12], .sbc (.mem (.zpXInd 0x12))),
   ([0xE4, 0x12], .cpx (.mem (.zp 0x12))), ([0xE5, 0x12], .sbc (.mem (.zp 0x12))),
   ([0xE6, 0x12], .inc (.mem (.zp 0x12))), ([0xE8], .inx), ([0xE9, 0x12], .sbc (.imm 0x12)),
   ([0xEC, 0x12, 0x34], .cpx (.mem (.abs 0x3412))), ([0xED, 0x12, 0x34], .sbc (.mem (.abs 0x3412))),
   ([0xEE, 0x12, 0x34], .inc (.mem (.abs 0x3412))), ([0xF1, 0x12], .sbc (.mem (.zpIndY 0x12))),
   ([0xF2, 0x12], .sbc (.mem (.zpInd 0x12))), ([0xF5, 0x12], .sbc (.mem (.zpX 0x12))),
   ([0xF6, 0x12], .inc (.mem (.zpX 0x12)))]

/-- Words of the arithmetic and logic instructions, from the opcode table (30 R64, R65). -/
def aluWords5 : List (List Byte × Instr) :=
  [([0xF9, 0x12, 0x34], .sbc (.mem (.absY 0x3412))), ([0xFD, 0x12, 0x34], .sbc (.mem (.absX 0x3412))),
   ([0xFE, 0x12, 0x34], .inc (.mem (.absX 0x3412)))]

theorem test_decode_alu : (aluWords1 ++ aluWords2 ++ aluWords3 ++ aluWords4 ++ aluWords5).all decodesTo = true := by decide +kernel

/-- Words of the shifts, rotates and bit operations, from the opcode table (30 R64, R65). -/
def shiftsWords1 : List (List Byte × Instr) :=
  [([0x06, 0x12], .asl (.mem (.zp 0x12))), ([0x07, 0x12], .rmb0 0x12), ([0x0A], .asl .acc),
   ([0x0E, 0x12, 0x34], .asl (.mem (.abs 0x3412))), ([0x16, 0x12], .asl (.mem (.zpX 0x12))),
   ([0x17, 0x12], .rmb1 0x12), ([0x1E, 0x12, 0x34], .asl (.mem (.absX 0x3412))),
   ([0x26, 0x12], .rol (.mem (.zp 0x12))), ([0x27, 0x12], .rmb2 0x12), ([0x2A], .rol .acc),
   ([0x2E, 0x12, 0x34], .rol (.mem (.abs 0x3412))), ([0x36, 0x12], .rol (.mem (.zpX 0x12))),
   ([0x37, 0x12], .rmb3 0x12), ([0x3E, 0x12, 0x34], .rol (.mem (.absX 0x3412))),
   ([0x46, 0x12], .lsr (.mem (.zp 0x12))), ([0x47, 0x12], .rmb4 0x12), ([0x4A], .lsr .acc),
   ([0x4E, 0x12, 0x34], .lsr (.mem (.abs 0x3412))), ([0x56, 0x12], .lsr (.mem (.zpX 0x12))),
   ([0x57, 0x12], .rmb5 0x12)]

/-- Words of the shifts, rotates and bit operations, from the opcode table (30 R64, R65). -/
def shiftsWords2 : List (List Byte × Instr) :=
  [([0x5E, 0x12, 0x34], .lsr (.mem (.absX 0x3412))), ([0x66, 0x12], .ror (.mem (.zp 0x12))),
   ([0x67, 0x12], .rmb6 0x12), ([0x6A], .ror .acc), ([0x6E, 0x12, 0x34], .ror (.mem (.abs 0x3412))),
   ([0x76, 0x12], .ror (.mem (.zpX 0x12))), ([0x77, 0x12], .rmb7 0x12),
   ([0x7E, 0x12, 0x34], .ror (.mem (.absX 0x3412))), ([0x87, 0x12], .smb0 0x12), ([0x97, 0x12], .smb1 0x12),
   ([0xA7, 0x12], .smb2 0x12), ([0xB7, 0x12], .smb3 0x12), ([0xC7, 0x12], .smb4 0x12), ([0xD7, 0x12], .smb5 0x12),
   ([0xE7, 0x12], .smb6 0x12), ([0xF7, 0x12], .smb7 0x12)]

theorem test_decode_shifts_and_bits : (shiftsWords1 ++ shiftsWords2).all decodesTo = true := by decide +kernel

/-- Words of branches, jumps, calls and returns, from the opcode table (30 R64, R65). -/
def controlWords1 : List (List Byte × Instr) :=
  [([0x00], .brk), ([0x0F, 0x12, 0x34], .bbr0 0x12 0x34), ([0x10, 0x12], .bpl 0x12),
   ([0x1F, 0x12, 0x34], .bbr1 0x12 0x34), ([0x20, 0x12, 0x34], .jsr 0x3412), ([0x2F, 0x12, 0x34], .bbr2 0x12 0x34),
   ([0x30, 0x12], .bmi 0x12), ([0x3F, 0x12, 0x34], .bbr3 0x12 0x34), ([0x40], .rti),
   ([0x4C, 0x12, 0x34], .jmp (.abs 0x3412)), ([0x4F, 0x12, 0x34], .bbr4 0x12 0x34), ([0x50, 0x12], .bvc 0x12),
   ([0x5F, 0x12, 0x34], .bbr5 0x12 0x34), ([0x60], .rts), ([0x6C, 0x12, 0x34], .jmp (.ind 0x3412)),
   ([0x6F, 0x12, 0x34], .bbr6 0x12 0x34), ([0x70, 0x12], .bvs 0x12), ([0x7C, 0x12, 0x34], .jmp (.indX 0x3412)),
   ([0x7F, 0x12, 0x34], .bbr7 0x12 0x34), ([0x80, 0x12], .bra 0x12)]

/-- Words of branches, jumps, calls and returns, from the opcode table (30 R64, R65). -/
def controlWords2 : List (List Byte × Instr) :=
  [([0x8F, 0x12, 0x34], .bbs0 0x12 0x34), ([0x90, 0x12], .bcc 0x12), ([0x9F, 0x12, 0x34], .bbs1 0x12 0x34),
   ([0xAF, 0x12, 0x34], .bbs2 0x12 0x34), ([0xB0, 0x12], .bcs 0x12), ([0xBF, 0x12, 0x34], .bbs3 0x12 0x34),
   ([0xCF, 0x12, 0x34], .bbs4 0x12 0x34), ([0xD0, 0x12], .bne 0x12), ([0xDF, 0x12, 0x34], .bbs5 0x12 0x34),
   ([0xEF, 0x12, 0x34], .bbs6 0x12 0x34), ([0xF0, 0x12], .beq 0x12), ([0xFF, 0x12, 0x34], .bbs7 0x12 0x34)]

theorem test_decode_control : (controlWords1 ++ controlWords2).all decodesTo = true := by decide +kernel

/-- Words of the flag instructions, NOP, WAI and STP, from the opcode table (30 R64, R65). -/
def flagsWords : List (List Byte × Instr) :=
  [([0x18], .clc), ([0x38], .sec), ([0x58], .cli), ([0x78], .sei), ([0xB8], .clv), ([0xCB], .wai), ([0xD8], .cld),
   ([0xDB], .stp), ([0xEA], .nop), ([0xF8], .sed)]

theorem test_decode_flags_and_halts : (flagsWords).all decodesTo = true := by decide +kernel

/-- Words of the undefined values, from the opcode table (30 R64, R65). -/
def undefinedWords1 : List (List Byte × Instr) :=
  [([0x02, 0x12], .undefined (.imm 0x02 0x12)), ([0x03], .undefined (.one 0x03)), ([0x0B], .undefined (.one 0x0B)),
   ([0x13], .undefined (.one 0x13)), ([0x1B], .undefined (.one 0x1B)), ([0x22, 0x12], .undefined (.imm 0x22 0x12)),
   ([0x23], .undefined (.one 0x23)), ([0x2B], .undefined (.one 0x2B)), ([0x33], .undefined (.one 0x33)),
   ([0x3B], .undefined (.one 0x3B)), ([0x42, 0x12], .undefined (.imm 0x42 0x12)), ([0x43], .undefined (.one 0x43)),
   ([0x44, 0x12], .undefined (.zp 0x44 0x12)), ([0x4B], .undefined (.one 0x4B)), ([0x53], .undefined (.one 0x53)),
   ([0x54, 0x12], .undefined (.zpX 0x54 0x12)), ([0x5B], .undefined (.one 0x5B)),
   ([0x5C, 0x12, 0x34], .undefined (.abs 0x5C 0x3412)), ([0x62, 0x12], .undefined (.imm 0x62 0x12)),
   ([0x63], .undefined (.one 0x63))]

/-- Words of the undefined values, from the opcode table (30 R64, R65). -/
def undefinedWords2 : List (List Byte × Instr) :=
  [([0x6B], .undefined (.one 0x6B)), ([0x73], .undefined (.one 0x73)), ([0x7B], .undefined (.one 0x7B)),
   ([0x82, 0x12], .undefined (.imm 0x82 0x12)), ([0x83], .undefined (.one 0x83)), ([0x8B], .undefined (.one 0x8B)),
   ([0x93], .undefined (.one 0x93)), ([0x9B], .undefined (.one 0x9B)), ([0xA3], .undefined (.one 0xA3)),
   ([0xAB], .undefined (.one 0xAB)), ([0xB3], .undefined (.one 0xB3)), ([0xBB], .undefined (.one 0xBB)),
   ([0xC2, 0x12], .undefined (.imm 0xC2 0x12)), ([0xC3], .undefined (.one 0xC3)), ([0xD3], .undefined (.one 0xD3)),
   ([0xD4, 0x12], .undefined (.zpX 0xD4 0x12)), ([0xDC, 0x12, 0x34], .undefined (.abs 0xDC 0x3412)),
   ([0xE2, 0x12], .undefined (.imm 0xE2 0x12)), ([0xE3], .undefined (.one 0xE3)), ([0xEB], .undefined (.one 0xEB))]

/-- Words of the undefined values, from the opcode table (30 R64, R65). -/
def undefinedWords3 : List (List Byte × Instr) :=
  [([0xF3], .undefined (.one 0xF3)), ([0xF4, 0x12], .undefined (.zpX 0xF4 0x12)), ([0xFB], .undefined (.one 0xFB)),
   ([0xFC, 0x12, 0x34], .undefined (.abs 0xFC 0x3412))]

theorem test_decode_undefined_values : (undefinedWords1 ++ undefinedWords2 ++ undefinedWords3).all decodesTo = true := by decide +kernel

/-- The debug opcodes take their values from the undefined ones (30 R72). -/
theorem test_decode_debug_opcodes :
    decodeBytes debugAll 0xFB 0 0 = .opBreakpoint ∧ decodeBytes debugAll 0xEB 0 0 = .opRegdump ∧
    decodeBytes debugAll 0x42 0 0 = .opMemdump ∧ encode debugAll .opRegdump = [0xEB] := by decide +kernel

/-- A string that ends before its operand bytes is rejected (30 R61). -/
theorem test_decode_rejects_short_strings :
    [[], [0xA9], [0xAD, 0x00], [0x0F, 0x12]].all (fun bytes => match decode .absent bytes with
      | .ok _ => false
      | .error _ => true) = true := by decide +kernel

/-- The host's two entry points on one word: ADC abs,X with the operand bytes 0x34, 0x12. -/
theorem test_table_word :
    decodeTableWord 24 0x12347D = some (.adc (.mem (.absX 0x1234))) ∧
    (State.withFetchWord State.reset 24 0x12347D).mem = [(0, 0x7D), (1, 0x34), (2, 0x12)] := by decide +kernel

/-- PC, A, X, Y, S and the packed P of one row. -/
structure Regs where
  pc : Word
  a : Byte
  x : Byte
  y : Byte
  s : Byte
  p : Byte

def r (pc : Word) (a x y s p : Byte) : Regs := { pc := pc, a := a, x := x, y := y, s := s, p := p }

/-- Bytes at PC, registers before, other memory before, registers after, bytes written, cycles. -/
abbrev Row := List Byte × Regs × List (Nat × Byte) × Regs × List (Nat × Byte) × Nat

/-- Store cells one after the other. -/
def place (m : Memory) (cells : List (Nat × Byte)) : Memory := cells.foldl (fun m c => m.write c.1 c.2) m

/-- A live state with the given registers, and the bytes at PC on top of other cells. -/
def stateOf (params : Params) (g : Regs) (bytes : List Byte) (cells : List (Nat × Byte)) : State :=
  { State.reset with
    pc := g.pc, a := g.a, x := g.x, y := g.y, sp := g.s, flags := Flags.unpack g.p, params := params,
    mem := place (place [] cells) (bytes.zipIdx.map (fun b => ((g.pc.toNat + b.2) % 65536, b.1))) }

/-- One step gives the registers, the memory, the cycles and the outcome of the row. -/
def stepsTo (params : Params) (out : StepOutcome) (row : Row) : Bool :=
  let (bytes, g, cells, g', written, cycles) := row
  let s := stateOf params g bytes cells
  match step s with
  | .next t =>
    decide (t = { s with
      pc := g'.pc, a := g'.a, x := g'.x, y := g'.y, sp := g'.s, flags := Flags.unpack g'.p,
      mem := place s.mem written, totalCycles := cycles, outcome := out })
  | .fault _ => false
  | .refused _ => false

/-! One step of the spec's own vectors (95_test_vectors.md section 2, rules R130 to R274), in its order. -/

def loadsVectors : List Row :=
  [([0xA9, 0x00], r 0x0300 0x55 0x00 0x00 0xFF 0x20, [], r 0x0302 0x00 0x00 0x00 0xFF 0x22, [], 2),
   ([0xA9, 0x80], r 0x0300 0x00 0x00 0x00 0xFF 0x20, [], r 0x0302 0x80 0x00 0x00 0xFF 0xA0, [], 2),
   ([0xBD, 0xFF, 0x12], r 0x0300 0x00 0x01 0x00 0xFF 0x20, [(0x1300, 0x80)], r 0x0303 0x80 0x01 0x00 0xFF 0xA0, [], 5),
   ([0xB9, 0x00, 0x12], r 0x0300 0x00 0x00 0x10 0xFF 0x20, [(0x1210, 0x01)], r 0x0303 0x01 0x00 0x10 0xFF 0x20, [], 4),
   ([0xB1, 0x40], r 0x0300 0x00 0x00 0x01 0xFF 0x20, [(0x0040, 0xFF), (0x0041, 0x20), (0x2100, 0x33)], r 0x0302 0x33 0x00 0x01 0xFF 0x20, [], 6),
   ([0xA1, 0xFE], r 0x0300 0x00 0x01 0x00 0xFF 0x20, [(0x0000, 0x12), (0x00FF, 0x34), (0x1234, 0x77)], r 0x0302 0x77 0x01 0x00 0xFF 0x20, [], 6),
   ([0xB2, 0xFF], r 0x0300 0x00 0x00 0x00 0xFF 0x20, [(0x0000, 0x05), (0x00FF, 0x00), (0x0500, 0x9A)], r 0x0302 0x9A 0x00 0x00 0xFF 0xA0, [], 5),
   ([0xB5, 0xF0], r 0x0300 0x00 0x20 0x00 0xFF 0x20, [(0x0010, 0x42)], r 0x0302 0x42 0x20 0x00 0xFF 0x20, [], 4),
   ([0xB6, 0xF0], r 0x0300 0x00 0x00 0x20 0xFF 0x20, [(0x0010, 0x00)], r 0x0302 0x00 0x00 0x20 0xFF 0x22, [], 4),
   ([0xA0, 0xFF], r 0x0300 0x00 0x00 0x00 0xFF 0x20, [], r 0x0302 0x00 0x00 0xFF 0xFF 0xA0, [], 2)]

theorem test_vectors_loads : loadsVectors.all (stepsTo .standard .cont) = true := by decide +kernel

def storesVectors : List Row :=
  [([0x8D, 0x00, 0x02], r 0x0300 0x42 0x00 0x00 0xFF 0x20, [], r 0x0303 0x42 0x00 0x00 0xFF 0x20, [(0x0200, 0x42)], 4),
   ([0x9D, 0xFF, 0x02], r 0x0300 0x42 0x01 0x00 0xFF 0x20, [], r 0x0303 0x42 0x01 0x00 0xFF 0x20, [(0x0300, 0x42)], 5),
   ([0x91, 0x40], r 0x0300 0x5A 0x00 0x02 0xFF 0x20, [(0x0040, 0x00), (0x0041, 0x20)], r 0x0302 0x5A 0x00 0x02 0xFF 0x20, [(0x2002, 0x5A)], 6),
   ([0x86, 0x10], r 0x0300 0x00 0x7F 0x00 0xFF 0x20, [], r 0x0302 0x00 0x7F 0x00 0xFF 0x20, [(0x0010, 0x7F)], 3),
   ([0x8C, 0x00, 0x04], r 0x0300 0x00 0x00 0x01 0xFF 0x20, [], r 0x0303 0x00 0x00 0x01 0xFF 0x20, [(0x0400, 0x01)], 4),
   ([0x9E, 0x00, 0x04], r 0x0300 0x00 0x03 0x00 0xFF 0x20, [(0x0403, 0x77)], r 0x0303 0x00 0x03 0x00 0xFF 0x20, [(0x0403, 0x00)], 5)]

theorem test_vectors_stores : storesVectors.all (stepsTo .standard .cont) = true := by decide +kernel

def transfersVectors : List Row :=
  [([0xAA], r 0x0300 0x00 0x05 0x00 0xFF 0x20, [], r 0x0301 0x00 0x00 0x00 0xFF 0x22, [], 2),
   ([0xA8], r 0x0300 0x90 0x00 0x00 0xFF 0x20, [], r 0x0301 0x90 0x00 0x90 0xFF 0xA0, [], 2),
   ([0x8A], r 0x0300 0x80 0x01 0x00 0xFF 0xA0, [], r 0x0301 0x01 0x01 0x00 0xFF 0x20, [], 2),
   ([0x98], r 0x0300 0x00 0x00 0xFF 0xFF 0x20, [], r 0x0301 0xFF 0x00 0xFF 0xFF 0xA0, [], 2),
   ([0xBA], r 0x0300 0x00 0x00 0x00 0x80 0x20, [], r 0x0301 0x00 0x80 0x00 0x80 0xA0, [], 2),
   ([0x9A], r 0x0300 0x00 0x00 0x00 0xFF 0x20, [], r 0x0301 0x00 0x00 0x00 0x00 0x20, [], 2)]

theorem test_vectors_transfers : transfersVectors.all (stepsTo .standard .cont) = true := by decide +kernel

def stackVectors : List Row :=
  [([0x48], r 0x0300 0x12 0x00 0x00 0x00 0x20, [], r 0x0301 0x12 0x00 0x00 0xFF 0x20, [(0x0100, 0x12)], 3),
   ([0xDA], r 0x0300 0x00 0x34 0x00 0xFF 0x20, [], r 0x0301 0x00 0x34 0x00 0xFE 0x20, [(0x01FF, 0x34)], 3),
   ([0x5A], r 0x0300 0x00 0x00 0x56 0xFF 0x20, [], r 0x0301 0x00 0x00 0x56 0xFE 0x20, [(0x01FF, 0x56)], 3),
   ([0x08], r 0x0300 0x00 0x00 0x00 0xFF 0x29, [], r 0x0301 0x00 0x00 0x00 0xFE 0x29, [(0x01FF, 0x39)], 3),
   ([0x68], r 0x0300 0x00 0x00 0x00 0xFF 0x20, [(0x0100, 0x00)], r 0x0301 0x00 0x00 0x00 0x00 0x22, [], 4),
   ([0xFA], r 0x0300 0x00 0x00 0x00 0xFE 0x20, [(0x01FF, 0x80)], r 0x0301 0x00 0x80 0x00 0xFF 0xA0, [], 4),
   ([0x7A], r 0x0300 0x00 0x00 0x00 0xFE 0x20, [(0x01FF, 0x01)], r 0x0301 0x00 0x00 0x01 0xFF 0x20, [], 4),
   ([0x28], r 0x0300 0x00 0x00 0x00 0xFE 0x20, [(0x01FF, 0xFF)], r 0x0301 0x00 0x00 0x00 0xFF 0xFF, [], 4),
   ([0x28], r 0x0300 0x00 0x00 0x00 0xFE 0xFF, [(0x01FF, 0x00)], r 0x0301 0x00 0x00 0x00 0xFF 0x20, [], 4)]

theorem test_vectors_stack : stackVectors.all (stepsTo .standard .cont) = true := by decide +kernel

def adcVectors : List Row :=
  [([0x69, 0x50], r 0x0300 0x50 0x00 0x00 0xFF 0x20, [], r 0x0302 0xA0 0x00 0x00 0xFF 0xE0, [], 2),
   ([0x69, 0x05], r 0x0300 0x05 0x00 0x00 0xFF 0x28, [], r 0x0302 0x10 0x00 0x00 0xFF 0x28, [], 3),
   ([0x69, 0x01], r 0x0300 0xFF 0x00 0x00 0xFF 0x20, [], r 0x0302 0x00 0x00 0x00 0xFF 0x23, [], 2),
   ([0x69, 0x01], r 0x0300 0x7F 0x00 0x00 0xFF 0x20, [], r 0x0302 0x80 0x00 0x00 0xFF 0xE0, [], 2),
   ([0x69, 0x80], r 0x0300 0x80 0x00 0x00 0xFF 0x20, [], r 0x0302 0x00 0x00 0x00 0xFF 0x63, [], 2),
   ([0x69, 0x00], r 0x0300 0x00 0x00 0x00 0xFF 0x21, [], r 0x0302 0x01 0x00 0x00 0xFF 0x20, [], 2),
   ([0x69, 0x01], r 0x0300 0x99 0x00 0x00 0xFF 0x28, [], r 0x0302 0x00 0x00 0x00 0xFF 0x2B, [], 3),
   ([0x69, 0x50], r 0x0300 0x50 0x00 0x00 0xFF 0x28, [], r 0x0302 0x00 0x00 0x00 0xFF 0x2B, [], 3),
   ([0x69, 0x01], r 0x0300 0x0F 0x00 0x00 0xFF 0x28, [], r 0x0302 0x16 0x00 0x00 0xFF 0x28, [], 3),
   ([0x69, 0x46], r 0x0300 0x58 0x00 0x00 0xFF 0x29, [], r 0x0302 0x05 0x00 0x00 0xFF 0x29, [], 3),
   ([0x79, 0xFF, 0x12], r 0x0300 0x12 0x00 0x01 0xFF 0x28, [(0x1300, 0x34)], r 0x0303 0x46 0x00 0x01 0xFF 0x28, [], 6)]

theorem test_vectors_adc : adcVectors.all (stepsTo .standard .cont) = true := by decide +kernel

def sbcVectors : List Row :=
  [([0xE9, 0x01], r 0x0300 0x00 0x00 0x00 0xFF 0x21, [], r 0x0302 0xFF 0x00 0x00 0xFF 0xA0, [], 2),
   ([0xE9, 0x01], r 0x0300 0x80 0x00 0x00 0xFF 0x21, [], r 0x0302 0x7F 0x00 0x00 0xFF 0x61, [], 2),
   ([0xE9, 0xB0], r 0x0300 0x50 0x00 0x00 0xFF 0x21, [], r 0x0302 0xA0 0x00 0x00 0xFF 0xE0, [], 2),
   ([0xE9, 0x03], r 0x0300 0x05 0x00 0x00 0xFF 0x20, [], r 0x0302 0x01 0x00 0x00 0xFF 0x21, [], 2),
   ([0xE9, 0x01], r 0x0300 0x00 0x00 0x00 0xFF 0x29, [], r 0x0302 0x99 0x00 0x00 0xFF 0xA8, [], 3),
   ([0xE9, 0x01], r 0x0300 0x10 0x00 0x00 0xFF 0x29, [], r 0x0302 0x09 0x00 0x00 0xFF 0x29, [], 3),
   ([0xE9, 0x34], r 0x0300 0x21 0x00 0x00 0xFF 0x29, [], r 0x0302 0x87 0x00 0x00 0xFF 0xA8, [], 3),
   ([0xE9, 0x12], r 0x0300 0x46 0x00 0x00 0xFF 0x29, [], r 0x0302 0x34 0x00 0x00 0xFF 0x29, [], 3)]

theorem test_vectors_sbc : sbcVectors.all (stepsTo .standard .cont) = true := by decide +kernel

def logicVectors : List Row :=
  [([0x29, 0x0F], r 0x0300 0xF0 0x00 0x00 0xFF 0x20, [], r 0x0302 0x00 0x00 0x00 0xFF 0x22, [], 2),
   ([0x09, 0x80], r 0x0300 0x01 0x00 0x00 0xFF 0x20, [], r 0x0302 0x81 0x00 0x00 0xFF 0xA0, [], 2),
   ([0x49, 0x5A], r 0x0300 0x5A 0x00 0x00 0xFF 0x20, [], r 0x0302 0x00 0x00 0x00 0xFF 0x22, [], 2)]

theorem test_vectors_logic : logicVectors.all (stepsTo .standard .cont) = true := by decide +kernel

def compareVectors : List Row :=
  [([0xC9, 0x42], r 0x0300 0x42 0x00 0x00 0xFF 0x20, [], r 0x0302 0x42 0x00 0x00 0xFF 0x23, [], 2),
   ([0xC9, 0x43], r 0x0300 0x42 0x00 0x00 0xFF 0x20, [], r 0x0302 0x42 0x00 0x00 0xFF 0xA0, [], 2),
   ([0xC9, 0x01], r 0x0300 0x80 0x00 0x00 0xFF 0x20, [], r 0x0302 0x80 0x00 0x00 0xFF 0x21, [], 2),
   ([0xE0, 0x05], r 0x0300 0x00 0x06 0x00 0xFF 0x20, [], r 0x0302 0x00 0x06 0x00 0xFF 0x21, [], 2),
   ([0xC0, 0x80], r 0x0300 0x00 0x00 0x7F 0xFF 0x20, [], r 0x0302 0x00 0x00 0x7F 0xFF 0xA0, [], 2)]

theorem test_vectors_compare : compareVectors.all (stepsTo .standard .cont) = true := by decide +kernel

def bitVectors : List Row :=
  [([0x24, 0x10], r 0x0300 0x01 0x00 0x00 0xFF 0x20, [(0x0010, 0xC0)], r 0x0302 0x01 0x00 0x00 0xFF 0xE2, [], 3),
   ([0x89, 0xC0], r 0x0300 0x01 0x00 0x00 0xFF 0x20, [], r 0x0302 0x01 0x00 0x00 0xFF 0x22, [], 2),
   ([0x89, 0x01], r 0x0300 0x01 0x00 0x00 0xFF 0xE0, [], r 0x0302 0x01 0x00 0x00 0xFF 0xE0, [], 2),
   ([0x04, 0x10], r 0x0300 0x0F 0x00 0x00 0xFF 0x20, [(0x0010, 0xF0)], r 0x0302 0x0F 0x00 0x00 0xFF 0x22, [(0x0010, 0xFF)], 5),
   ([0x14, 0x10], r 0x0300 0x0F 0x00 0x00 0xFF 0x20, [(0x0010, 0xFF)], r 0x0302 0x0F 0x00 0x00 0xFF 0x20, [(0x0010, 0xF0)], 5)]

theorem test_vectors_bit : bitVectors.all (stepsTo .standard .cont) = true := by decide +kernel

def countVectors : List Row :=
  [([0x1A], r 0x0300 0xFF 0x00 0x00 0xFF 0x20, [], r 0x0301 0x00 0x00 0x00 0xFF 0x22, [], 2),
   ([0x3A], r 0x0300 0x00 0x00 0x00 0xFF 0x20, [], r 0x0301 0xFF 0x00 0x00 0xFF 0xA0, [], 2),
   ([0xFE, 0xFF, 0x12], r 0x0300 0x00 0x01 0x00 0xFF 0x20, [(0x1300, 0x7F)], r 0x0303 0x00 0x01 0x00 0xFF 0xA0, [(0x1300, 0x80)], 7),
   ([0xC6, 0x10], r 0x0300 0x00 0x00 0x00 0xFF 0x20, [(0x0010, 0x01)], r 0x0302 0x00 0x00 0x00 0xFF 0x22, [(0x0010, 0x00)], 5),
   ([0xE8], r 0x0300 0x00 0xFF 0x00 0xFF 0x20, [], r 0x0301 0x00 0x00 0x00 0xFF 0x22, [], 2),
   ([0xC8], r 0x0300 0x00 0x00 0x7F 0xFF 0x20, [], r 0x0301 0x00 0x00 0x80 0xFF 0xA0, [], 2),
   ([0xCA], r 0x0300 0x00 0x00 0x00 0xFF 0x20, [], r 0x0301 0x00 0xFF 0x00 0xFF 0xA0, [], 2),
   ([0x88], r 0x0300 0x00 0x00 0x01 0xFF 0x20, [], r 0x0301 0x00 0x00 0x00 0xFF 0x22, [], 2)]

theorem test_vectors_count : countVectors.all (stepsTo .standard .cont) = true := by decide +kernel

def shiftVectors : List Row :=
  [([0x0A], r 0x0300 0x80 0x00 0x00 0xFF 0x20, [], r 0x0301 0x00 0x00 0x00 0xFF 0x23, [], 2),
   ([0x0A], r 0x0300 0x40 0x00 0x00 0xFF 0x20, [], r 0x0301 0x80 0x00 0x00 0xFF 0xA0, [], 2),
   ([0x1E, 0xFF, 0x12], r 0x0300 0x00 0x01 0x00 0xFF 0x20, [(0x1300, 0x81)], r 0x0303 0x00 0x01 0x00 0xFF 0x21, [(0x1300, 0x02)], 7),
   ([0x4A], r 0x0300 0x01 0x00 0x00 0xFF 0x20, [], r 0x0301 0x00 0x00 0x00 0xFF 0x23, [], 2),
   ([0x46, 0x10], r 0x0300 0x00 0x00 0x00 0xFF 0x20, [(0x0010, 0x80)], r 0x0302 0x00 0x00 0x00 0xFF 0x20, [(0x0010, 0x40)], 5),
   ([0x2A], r 0x0300 0x80 0x00 0x00 0xFF 0x21, [], r 0x0301 0x01 0x00 0x00 0xFF 0x21, [], 2),
   ([0x2A], r 0x0300 0x00 0x00 0x00 0xFF 0x20, [], r 0x0301 0x00 0x00 0x00 0xFF 0x22, [], 2),
   ([0x66, 0x10], r 0x0300 0x00 0x00 0x00 0xFF 0x20, [(0x0010, 0x02)], r 0x0302 0x00 0x00 0x00 0xFF 0x20, [(0x0010, 0x01)], 5),
   ([0x6A], r 0x0300 0x01 0x00 0x00 0xFF 0x21, [], r 0x0301 0x80 0x00 0x00 0xFF 0xA1, [], 2)]

theorem test_vectors_shift : shiftVectors.all (stepsTo .standard .cont) = true := by decide +kernel

def zeroPageBitVectors : List Row :=
  [([0x37, 0x10], r 0x0300 0x00 0x00 0x00 0xFF 0x20, [(0x0010, 0xFF)], r 0x0302 0x00 0x00 0x00 0xFF 0x20, [(0x0010, 0xF7)], 5),
   ([0xF7, 0x10], r 0x0300 0x00 0x00 0x00 0xFF 0x20, [(0x0010, 0x00)], r 0x0302 0x00 0x00 0x00 0xFF 0x20, [(0x0010, 0x80)], 5)]

theorem test_vectors_zeroPageBit : zeroPageBitVectors.all (stepsTo .standard .cont) = true := by decide +kernel

def branchVectors : List Row :=
  [([0xD0, 0xFE], r 0x0300 0x00 0x00 0x00 0xFF 0x20, [], r 0x0300 0x00 0x00 0x00 0xFF 0x20, [], 3),
   ([0xD0, 0xFE], r 0x0300 0x00 0x00 0x00 0xFF 0x22, [], r 0x0302 0x00 0x00 0x00 0xFF 0x22, [], 2),
   ([0xF0, 0x05], r 0x03FD 0x00 0x00 0x00 0xFF 0x22, [], r 0x0404 0x00 0x00 0x00 0xFF 0x22, [], 4),
   ([0xF0, 0x80], r 0x0300 0x00 0x00 0x00 0xFF 0x22, [], r 0x0282 0x00 0x00 0x00 0xFF 0x22, [], 4),
   ([0x80, 0x10], r 0x0300 0x00 0x00 0x00 0xFF 0x20, [], r 0x0312 0x00 0x00 0x00 0xFF 0x20, [], 3),
   ([0x90, 0x20], r 0xFFF0 0x00 0x00 0x00 0xFF 0x20, [], r 0x0012 0x00 0x00 0x00 0xFF 0x20, [], 4),
   ([0xB0, 0x02], r 0x0300 0x00 0x00 0x00 0xFF 0x21, [], r 0x0304 0x00 0x00 0x00 0xFF 0x21, [], 3),
   ([0x30, 0x02], r 0x0300 0x00 0x00 0x00 0xFF 0x20, [], r 0x0302 0x00 0x00 0x00 0xFF 0x20, [], 2),
   ([0x10, 0x02], r 0x0300 0x00 0x00 0x00 0xFF 0x20, [], r 0x0304 0x00 0x00 0x00 0xFF 0x20, [], 3),
   ([0x50, 0x02], r 0x0300 0x00 0x00 0x00 0xFF 0x60, [], r 0x0302 0x00 0x00 0x00 0xFF 0x60, [], 2),
   ([0x70, 0x02], r 0x0300 0x00 0x00 0x00 0xFF 0x60, [], r 0x0304 0x00 0x00 0x00 0xFF 0x60, [], 3)]

theorem test_vectors_branch : branchVectors.all (stepsTo .standard .cont) = true := by decide +kernel

def bitBranchVectors : List Row :=
  [([0x0F, 0x10, 0x7F], r 0x0300 0x00 0x00 0x00 0xFF 0x20, [(0x0010, 0xFE)], r 0x0382 0x00 0x00 0x00 0xFF 0x20, [], 6),
   ([0x0F, 0x10, 0x10], r 0x03F0 0x00 0x00 0x00 0xFF 0x20, [(0x0010, 0xFE)], r 0x0403 0x00 0x00 0x00 0xFF 0x20, [], 7),
   ([0x0F, 0x10, 0x7F], r 0x0300 0x00 0x00 0x00 0xFF 0x20, [(0x0010, 0x01)], r 0x0303 0x00 0x00 0x00 0xFF 0x20, [], 5),
   ([0xFF, 0x10, 0xFD], r 0x0300 0x00 0x00 0x00 0xFF 0x20, [(0x0010, 0x80)], r 0x0300 0x00 0x00 0x00 0xFF 0x20, [], 6)]

theorem test_vectors_bitBranch : bitBranchVectors.all (stepsTo .standard .cont) = true := by decide +kernel

def jumpVectors : List Row :=
  [([0x4C, 0x34, 0x12], r 0x0300 0x00 0x00 0x00 0xFF 0x20, [], r 0x1234 0x00 0x00 0x00 0xFF 0x20, [], 3),
   ([0x6C, 0xFF, 0x10], r 0x0300 0x00 0x00 0x00 0xFF 0x20, [(0x10FF, 0x78), (0x1100, 0x56)], r 0x5678 0x00 0x00 0x00 0xFF 0x20, [], 6),
   ([0x7C, 0x00, 0x10], r 0x0300 0x00 0x02 0x00 0xFF 0x20, [(0x1002, 0x00), (0x1003, 0x80)], r 0x8000 0x00 0x02 0x00 0xFF 0x20, [], 6),
   ([0x20, 0x00, 0x40], r 0x0300 0x00 0x00 0x00 0xFF 0x20, [], r 0x4000 0x00 0x00 0x00 0xFD 0x20, [(0x01FF, 0x03), (0x01FE, 0x02)], 6),
   ([0x60], r 0x0300 0x00 0x00 0x00 0xFD 0x20, [(0x01FE, 0x02), (0x01FF, 0x03)], r 0x0303 0x00 0x00 0x00 0xFF 0x20, [], 6),
   ([0x60], r 0x0300 0x00 0x00 0x00 0xFF 0x20, [(0x0100, 0xFF), (0x0101, 0xFF)], r 0x0000 0x00 0x00 0x00 0x01 0x20, [], 6),
   ([0x40], r 0x0300 0x00 0x00 0x00 0xFC 0x20, [(0x01FD, 0xC3), (0x01FE, 0x00), (0x01FF, 0x80)], r 0x8000 0x00 0x00 0x00 0xFF 0xE3, [], 6)]

theorem test_vectors_jump : jumpVectors.all (stepsTo .standard .cont) = true := by decide +kernel

def jumpVectoredVectors : List Row :=
  [([0x00], r 0x0300 0x00 0x00 0x00 0xFF 0x29, [(0xFFFE, 0x00), (0xFFFF, 0x90)], r 0x9000 0x00 0x00 0x00 0xFC 0x25, [(0x01FF, 0x03), (0x01FE, 0x02), (0x01FD, 0x39)], 7)]

theorem test_vectors_jump_vectored : jumpVectoredVectors.all (stepsTo vectoredParams .cont) = true := by decide +kernel

def jumpFinishedVectors : List Row :=
  [([0x00], r 0x0300 0x00 0x00 0x00 0xFF 0x21, [], r 0x0301 0x00 0x00 0x00 0xFF 0x21, [], 7)]

theorem test_vectors_jump_finished : jumpFinishedVectors.all (stepsTo .standard .finished) = true := by decide +kernel

def flagVectors : List Row :=
  [([0x18], r 0x0300 0x00 0x00 0x00 0xFF 0x21, [], r 0x0301 0x00 0x00 0x00 0xFF 0x20, [], 2),
   ([0x38], r 0x0300 0x00 0x00 0x00 0xFF 0x20, [], r 0x0301 0x00 0x00 0x00 0xFF 0x21, [], 2),
   ([0xD8], r 0x0300 0x00 0x00 0x00 0xFF 0x28, [], r 0x0301 0x00 0x00 0x00 0xFF 0x20, [], 2),
   ([0xF8], r 0x0300 0x00 0x00 0x00 0xFF 0x20, [], r 0x0301 0x00 0x00 0x00 0xFF 0x28, [], 2),
   ([0x58], r 0x0300 0x00 0x00 0x00 0xFF 0x24, [], r 0x0301 0x00 0x00 0x00 0xFF 0x20, [], 2),
   ([0x78], r 0x0300 0x00 0x00 0x00 0xFF 0x20, [], r 0x0301 0x00 0x00 0x00 0xFF 0x24, [], 2),
   ([0xB8], r 0x0300 0x00 0x00 0x00 0xFF 0x60, [], r 0x0301 0x00 0x00 0x00 0xFF 0x20, [], 2),
   ([0xEA], r 0x0300 0x12 0x00 0x00 0xFF 0xA1, [], r 0x0301 0x12 0x00 0x00 0xFF 0xA1, [], 2)]

theorem test_vectors_flag : flagVectors.all (stepsTo .standard .cont) = true := by decide +kernel

def haltFinishedVectors : List Row :=
  [([0xCB], r 0x0300 0x00 0x00 0x00 0xFF 0x20, [], r 0x0301 0x00 0x00 0x00 0xFF 0x20, [], 3),
   ([0xDB], r 0x0300 0x00 0x00 0x00 0xFF 0x20, [], r 0x0301 0x00 0x00 0x00 0xFF 0x20, [], 3)]

theorem test_vectors_halt_finished : haltFinishedVectors.all (stepsTo .standard .finished) = true := by decide +kernel

def undefNopVectors : List Row :=
  [([0x03], r 0x0300 0x00 0x00 0x00 0xFF 0x20, [], r 0x0301 0x00 0x00 0x00 0xFF 0x20, [], 1),
   ([0x02, 0xFF], r 0x0300 0x00 0x00 0x00 0xFF 0x20, [], r 0x0302 0x00 0x00 0x00 0xFF 0x20, [], 2),
   ([0x44, 0x10], r 0x0300 0x00 0x00 0x00 0xFF 0x20, [], r 0x0302 0x00 0x00 0x00 0xFF 0x20, [], 3),
   ([0x5C, 0x34, 0x12], r 0x0300 0x00 0x00 0x00 0xFF 0x20, [], r 0x0303 0x00 0x00 0x00 0xFF 0x20, [], 8),
   ([0xDC, 0x34, 0x12], r 0x0300 0x00 0x00 0x00 0xFF 0x20, [], r 0x0303 0x00 0x00 0x00 0xFF 0x20, [], 4)]

theorem test_vectors_undef_wdc_nop : undefNopVectors.all (stepsTo wdcNopParams .cont) = true := by decide +kernel

def wrapVectors : List Row :=
  [([0xA9, 0x77], r 0xFFFF 0x00 0x00 0x00 0xFF 0x20, [], r 0x0001 0x77 0x00 0x00 0xFF 0x20, [], 2),
   ([0xBD, 0xFF, 0xFF], r 0x0300 0x00 0x02 0x00 0xFF 0x20, [(0x0001, 0x09)], r 0x0303 0x09 0x02 0x00 0xFF 0x20, [], 5),
   ([0xB1, 0x40], r 0x0300 0x00 0x00 0x02 0xFF 0x20, [(0x0001, 0x0A), (0x0040, 0xFF), (0x0041, 0xFF)], r 0x0302 0x0A 0x00 0x02 0xFF 0x20, [], 6),
   ([0x6C, 0xFF, 0xFF], r 0x0300 0x00 0x00 0x00 0xFF 0x20, [(0x0000, 0x12), (0xFFFF, 0x00)], r 0x1200 0x00 0x00 0x00 0xFF 0x20, [], 6),
   ([0x8D, 0x03, 0x03, 0xEA], r 0x0300 0xCB 0x00 0x00 0xFF 0x20, [], r 0x0303 0xCB 0x00 0x00 0xFF 0x20, [(0x0303, 0xCB)], 4)]

theorem test_vectors_wrap : wrapVectors.all (stepsTo .standard .cont) = true := by decide +kernel

/-- One step answers a next state with a property. -/
def stepsWith (s : State) (p : State → Bool) : Bool :=
  match step s with
  | .next t => p t
  | .fault _ => false
  | .refused _ => false

theorem exists_step {s : State} {p : State → Bool} (h : stepsWith s p = true) :
    ∃ t, step s = .next t ∧ p t = true := by
  unfold stepsWith at h
  split at h
  · exact ⟨_, ‹_›, h⟩
  · cases h
  · cases h

/-- One step answers the fault of a faulted CPU with this record. -/
def stepFaults (s : State) (record : FaultRecord) : Bool :=
  match step s with
  | .fault (.instanceFaulted f) => decide (f = record)
  | .next _ => false
  | .refused _ => false

/-- The controller returns a step count, with a property of the count, the state and the commands left. -/
def returnsWith (bound : Nat) (commands : List String) (s : State) (p : Nat → State → List String → Bool) : Bool :=
  match runUntilFinish bound commands s with
  | .returned n t rest => p n t rest
  | _ => false

theorem exists_returned {bound : Nat} {commands : List String} {s : State} {p : Nat → State → List String → Bool}
    (h : returnsWith bound commands s p = true) :
    ∃ n t rest, runUntilFinish bound commands s = .returned n t rest ∧ p n t rest = true := by
  unfold returnsWith at h
  split at h
  · exact ⟨_, _, _, ‹_›, h⟩
  · cases h

/-- The controller reaches its bound. -/
def boundedWith (bound : Nat) (commands : List String) (s : State) (p : Nat → State → List String → Bool) : Bool :=
  match runUntilFinish bound commands s with
  | .unfinished n t rest => p n t rest
  | _ => false

theorem exists_unfinished {bound : Nat} {commands : List String} {s : State} {p : Nat → State → List String → Bool}
    (h : boundedWith bound commands s p = true) :
    ∃ n t rest, runUntilFinish bound commands s = .unfinished n t rest ∧ p n t rest = true := by
  unfold boundedWith at h
  split at h
  · exact ⟨_, _, _, ‹_›, h⟩
  · cases h

/-- The controller aborts with a fault record. -/
def abortsWith (bound : Nat) (commands : List String) (s : State) (p : FaultRecord → State → Bool) : Bool :=
  match runUntilFinish bound commands s with
  | .aborted record t _ => p record t
  | _ => false

theorem exists_aborted {bound : Nat} {commands : List String} {s : State} {p : FaultRecord → State → Bool}
    (h : abortsWith bound commands s p = true) :
    ∃ record t rest, runUntilFinish bound commands s = .aborted record t rest ∧ p record t = true := by
  unfold abortsWith at h
  split at h
  · exact ⟨_, _, _, ‹_›, h⟩
  · cases h

/-- 95 section 2, "undefined 03, fault", and row H14: the fault is recorded, nothing else changes, and no further step
is taken (60 R290, R292). -/
theorem test_undefined_opcode_faults :
    let s := stateOf .standard (r 0x0300 0x00 0x00 0x00 0xFF 0x20) [0x03] []
    let t := { s with fault := some (.unsupportedInstruction 0x03 0x0300) }
    stepsWith s (fun u => decide (u = t)) = true ∧ stepFaults t (.unsupportedInstruction 0x03 0x0300) = true := by
  decide +kernel

/-- 95 section 2, the breakpoint row (46 R275). -/
theorem test_vectors_breakpoint :
    stepsTo debugParams .pause
      ([0xFB], r 0x0300 0x12 0x00 0x00 0xFF 0xA1, [], r 0x0301 0x12 0x00 0x00 0xFF 0xA1, [], 77) = true := by
  decide +kernel

/-- 95 section 2, the regdump row (46 R276), and the memory dump (46 R277): a report goes to the log. -/
theorem test_dumps_report :
    let s := stateOf debugParams (r 0x0300 0x12 0x00 0x00 0xFF 0x20) [0xEB, 0x42] []
    let t := { s with
      pc := 0x0301, totalCycles := 77, log := [.registers 0x12 0x00 0x00 0xFF 0x0301 Flags.clear] }
    stepsWith s (fun u => decide (u = t)) = true ∧
    stepsWith t (fun u => decide (u = { t with pc := 0x0302, totalCycles := 154, log := t.log ++ [.memory] })) = true := by
  decide +kernel

/-! Flags, reset and the host operations (95 sections 1 and 3). -/

/-- E6: for every byte p, pack(unpack(p)) = (p & 0xDF) | 0x20 (10 R18, R19). -/
theorem test_flag_round_trip :
    allBytes.all (fun p => decide ((Flags.unpack p).pack = p &&& 0xDF ||| 0x20)) = true := by decide +kernel

/-- E8 and 30 R67: every opcode has a descriptor under wdc_nop, 212 under fault, and each carries its opcode. -/
theorem test_table_completeness :
    allBytes.all (fun op => (lookup wdcNopParams op).any (fun d => decide (d.opcode = op))) = true ∧
    (allBytes.filter (fun op => (lookup .standard op).isSome)).length = 212 := by decide +kernel

/-- H3: a program past the end is refused; one that ends at 0xFFFF is not (70 R322). -/
theorem test_load_program_bounds :
    loadProgram [0xEA, 0xEA] 0xFFFF State.reset = .refuse .programTooLong State.reset ∧
    (loadProgram [0xEA] 0xFFFF State.reset).state = { State.reset with pc := 0xFFFF, mem := [(0xFFFF, 0xEA)] } := by
  decide +kernel

/-- The snapshot of row H6. -/
def h6 : Snapshot :=
  { pc := some 0x0300, a := some 0, x := some 0, y := some 0, s := some 0xFD, p := some 0, memory := [(0x0300, 0xEA)] }

/-- H6: A is 0 and Z is 0, since nothing is re-derived; the exported P is 0x20. -/
theorem test_snapshot_import :
    let t := (fromState h6 State.reset).state
    t = { State.reset with pc := 0x0300, sp := 0xFD, mem := [(0x0300, 0xEA)] } ∧ t.flags.pack = 0x20 := by
  decide +kernel

/-- H7 and H8: P 0xFF and 0xDF set all seven flags; P 0xDF is matched although the export is 0xFF (70 R326). -/
theorem test_snapshot_status :
    let t := (fromState { h6 with p := some 0xDF } State.reset).state
    t.flags.pack = 0xFF ∧ (fromState { h6 with p := some 0xFF } State.reset).state = t ∧
    matchesExpected { h6 with p := some 0xDF } t = true := by decide +kernel

/-- H9, H10, H11: a missing field, a key outside memory, a value outside its width. -/
theorem test_snapshot_rejected :
    fromState { h6 with s := none } State.reset = .refuse .missingField State.reset ∧
    fromState { h6 with memory := [(0x10000, 1)] } State.reset = .refuse .memoryKeyOutOfRange State.reset ∧
    fromState { h6 with a := some 0x100 } State.reset = .refuse .fieldTooWide State.reset ∧
    fromState { h6 with memory := [(0, 256)] } State.reset = .refuse .memoryValueOutOfRange State.reset := by
  decide +kernel

/-- H13: the conformance step on the worked example E1 (40 R91, 43 R170). -/
theorem test_conformance_step :
    conforms .standard
      { pc := some 0x0300, a := some 0x50, x := some 0, y := some 0, s := some 0xFF, p := some 0x20,
        memory := [(0x0300, 0x69), (0x0301, 0x50)] }
      { pc := some 0x0302, a := some 0xA0, x := some 0, y := some 0, s := some 0xFF, p := some 0xE0,
        memory := [(0x0300, 0x69)] } = true := by decide +kernel

/-- The model's choices at a faulting vector (log 29) and at an expected state out of range (log 30). -/
theorem test_comparison_choices :
    (let v : Snapshot := { h6 with memory := [(0x0300, 0x03)] }; conforms .standard v v) = true ∧
    matchesExpected { h6 with p := some 0x100, memory := [(0x10000, 0)] } (fromState h6 State.reset).state = true := by
  decide +kernel

/-! The execution controller (60 R300 to R306), on one or two instructions. -/

/-- A breakpoint, then a NOP, then the BRK that zeroed memory holds. -/
def paused : State := stateOf debugParams (r 0x0300 0x00 0x00 0x00 0xFF 0x20) [0xFB, 0xEA] []

/-- An undefined value at PC under `fault`. -/
def doomed : State := stateOf .standard (r 0x0300 0x00 0x00 0x00 0xFF 0x20) [0x03] []

/-- A count of 1 for a terminal BRK, which finishes the run (60 R302). -/
theorem test_run_finishes :
    returnsWith 2 [] State.reset (fun n t rest => decide (n = 1 ∧ rest = [] ∧ t =
      { State.reset with pc := 0x0001, totalCycles := 7, runState := .finished, outcome := .finished })) = true := by
  decide +kernel

/-- Pause, an unknown command, continue: then NOP and BRK (60 R301, R305). -/
theorem test_run_continues_after_pause :
    returnsWith 6 ["xyz", "continue", "c"] paused
      (fun n t rest => decide (n = 3 ∧ t.pc = 0x0303 ∧ t.runState = .finished ∧ rest = ["c"])) = true := by
  decide +kernel

/-- C4: Paused with the command source detached returns the count and stays Paused (60 R306). -/
theorem test_run_detached :
    returnsWith 6 ["step"] paused
      (fun n t rest => decide (n = 2 ∧ t.pc = 0x0302 ∧ t.runState = .paused ∧ t.singleStep = true ∧ rest = [])) = true := by
  decide +kernel

/-- Single-step pauses once after the terminal BRK, and the resume goes to Finished; detached it stays Paused (60 R304,
R305). -/
theorem test_run_single_step_finishes :
    returnsWith 2 ["c"] { State.reset with singleStep := true }
      (fun n t rest => decide (n = 1 ∧ t.pc = 0x0001 ∧ t.runState = .finished ∧ t.singleStep = false ∧ rest = [])) = true ∧
    returnsWith 1 [] { State.reset with singleStep := true }
      (fun n t rest => decide (n = 1 ∧ t.pc = 0x0001 ∧ t.runState = .paused ∧ rest = [])) = true := by decide +kernel

/-- One regs command, one diagnostic; another text, none (60 R305). -/
theorem test_regs_reports_once :
    (pauseHandler ["regs", "Regs", "c", "regs"] State.reset).state.log
      = [.registers 0x00 0x00 0x00 0xFF 0x0000 Flags.clear] := by decide +kernel

/-- C5: the run aborts with the fault record (60 R303). -/
theorem test_run_aborts :
    abortsWith 3 [] doomed (fun record t => decide (record = .unsupportedInstruction 0x03 0x0300 ∧
      t = { doomed with fault := some (.unsupportedInstruction 0x03 0x0300) })) = true := by decide +kernel

/-- C6: BNE to itself does not end within its bound (60 R308). -/
theorem test_run_unfinished :
    boundedWith 2 [] (stateOf .standard (r 0x0300 0x00 0x00 0x00 0xFF 0x20) [0xD0, 0xFE] [])
      (fun n t rest => decide (n = 2 ∧ t.pc = 0x0300 ∧ rest = [])) = true := by decide +kernel

/-! A witness for the hypotheses of each statement that has any. -/

/-- A state in the middle of memory, with S at its lowest value and every flag set. -/
def busy : State := stateOf .standard (r 0xFFFF 0x99 0x01 0xFF 0x00 0xFF) [0xA9, 0x77] [(0x0100, 0x01)]

def busyVectored : State := { busy with params := vectoredParams }

/-- `exec` answers a next state: the hypothesis of the frame statements. -/
def answersNext (i : Instr) (s : State) : Bool :=
  match exec i s with
  | .next _ => true
  | .fault _ => false
  | .refused _ => false

theorem exists_next {i : Instr} {s : State} (h : answersNext i s = true) : ∃ t, exec i s = .next t := by
  unfold answersNext at h
  split at h
  · exact ⟨_, ‹_›⟩
  · cases h
  · cases h

theorem witness_DecodeOfEncodeIsTheInstruction :
    DebugOpcodes.wf .absent = true ∧ debugAll.wf = true ∧
    (Instr.sbc (.mem (.zpIndY 0xFF))).wellFormed .absent = true ∧ Instr.opMemdump.wellFormed debugAll = true ∧
    (Instr.undefined (.abs 0x5C 0xFFFF)).wellFormed debugAll = true := by decide +kernel

theorem witness_DecodedBytesAreTheEncoding :
    decode debugAll [0xFF, 0x10, 0xFD, 0x00] = .ok (.bbs7 0x10 0xFD, [0x00]) ∧
    decode debugAll [0xFB] = .ok (.opBreakpoint, []) := ⟨rfl, rfl⟩

theorem witness_UndefinedValuesAreTheOtherBytes :
    [UndefForm.one 0x03, .imm 0x02 0xFF, .zp 0x44 0x00, .zpX 0xF4 0x00, .abs 0x5C 0x0000, .abs 0xDC 0xFFFF].all
      UndefForm.wf = true ∧
    lookup .standard 0x03 = none ∧ (lookup .standard 0x00).isSome = true := by decide +kernel

theorem witness_OpcodeBitFieldsOfBitOperationsAndBranches :
    (0x07 : Byte).toNat % 16 = 7 ∧ (0xF7 : Byte).toNat % 16 = 7 ∧ (0x0F : Byte).toNat % 16 = 15 ∧
    (0xFF : Byte).toNat % 16 = 15 ∧ (0x10 : Byte).toNat % 32 = 16 ∧ (0xF0 : Byte).toNat % 32 = 16 := by decide

theorem witness_BaseCyclesOfReadAndStoreForms :
    Instr.cmp ∈ [Instr.lda, Instr.adc, Instr.sbc, Instr.and, Instr.ora, Instr.eor, Instr.cmp] ∧
    Instr.dec ∈ [Instr.asl, Instr.lsr, Instr.rol, Instr.ror, Instr.inc, Instr.dec] ∧
    Instr.dey ∈ [Instr.tax, .tay, .txa, .tya, .tsx, .txs, .inx, .iny, .dex, .dey] := by simp

theorem witness_BranchesTestTheirFlag :
    Instr.bra 0x10 ∈ [Instr.bcc 0x10, .bcs 0x10, .beq 0x10, .bne 0x10, .bmi 0x10, .bpl 0x10, .bvc 0x10, .bvs 0x10,
      .bra 0x10] := by simp

/-- An instruction whose operand byte lies at address 0x0000, after an opcode at 0xFFFF. -/
theorem witness_StepRunsTheDecodedInstruction :
    let s := busy
    let i := Instr.lda (.imm 0x77)
    s.fault = none ∧ s.params.debugOpcodes.wf = true ∧ i.wellFormed s.params.debugOpcodes = true ∧
    ∀ k b, (encode s.params.debugOpcodes i)[k]? = some b → memRead s (s.pc + BitVec.ofNat 16 k) = b := by
  refine ⟨rfl, by decide +kernel, by decide +kernel, ?_⟩
  intro k b h
  match k, h with
  | 0, h => exact Option.some.inj h
  | 1, h => exact Option.some.inj h
  | k + 2, h => cases h

theorem witness_EveryInstructionCompletes :
    (Instr.brk.mnemonic ≠ .undefined ∨ busy.params.undefPolicy = .wdcNop) ∧
    ((Instr.undefined (.one 0x03)).mnemonic ≠ .undefined ∨ wdcNopParams.undefPolicy = .wdcNop) := by decide +kernel

/-- For the frame statements over all instructions: ControllerParametersAndLogFrame, RegistersHaveOnlyTheirWriters,
FlagsHaveOnlyTheirWriters, RegisterWritesDeriveZN. NOP writes nothing, so each of their clauses has its premise here. -/
theorem witness_frames_of_every_instruction :
    (∃ t, exec .nop busy = .next t) ∧ Instr.nop.mnemonic ∉ [Mnemonic.undefined, .opRegdump, .opMemdump] ∧
    writesA .nop = false ∧ writesX .nop = false ∧ writesY .nop = false ∧ Instr.nop ≠ .txs ∧
    writesC .nop = false ∧ writesZ .nop = false ∧ writesI .nop busy = false ∧ writesD .nop busy = false ∧
    writesB .nop = false ∧ writesV .nop = false ∧ writesN .nop = false :=
  ⟨exists_next (by decide +kernel), by decide +kernel⟩

theorem witness_RegisterWritesDeriveZN :
    (∃ t, exec (.asl .acc) busy = .next t) ∧ writesA (.asl .acc) = true ∧ (∃ t, exec .tsx busy = .next t) ∧
    writesX .tsx = true ∧ (∃ t, exec .dey busy = .next t) ∧ writesY .dey = true ∧ (∃ t, exec .txs busy = .next t) ∧
    Instr.txs.mnemonic ∈ [Mnemonic.txs, .pha, .phx, .phy, .php, .jsr, .rts] :=
  ⟨exists_next (by decide +kernel), by decide +kernel, exists_next (by decide +kernel), by decide +kernel,
    exists_next (by decide +kernel), by decide +kernel, exists_next (by decide +kernel), by decide +kernel⟩

/-- JSR at S = 0x00 stores at 0x0100 and 0x01FF; vectored BRK at 0x01FE too. -/
theorem witness_MemoryChangesOnlyWhereInstructionsStore :
    (∃ t, exec (.jsr 0x1234) busy = .next t) ∧ 0x01FE ∉ storeAddrs (.jsr 0x1234) busy ∧
    0x01FF ∈ storeAddrs (.jsr 0x1234) busy ∧ (∃ t, exec .brk busyVectored = .next t) ∧
    0x01FD ∉ storeAddrs .brk busyVectored ∧ 0x01FE ∈ storeAddrs .brk busyVectored :=
  ⟨exists_next (by decide +kernel), by decide +kernel, by decide +kernel, exists_next (by decide +kernel),
    by decide +kernel, by decide +kernel⟩

theorem witness_OutcomesComeFromTheirInstructionsOnly :
    State.reset.fault = none ∧ paused.fault = none ∧ busy.fault = none ∧
    (∃ t, step State.reset = .next t ∧ decide (t.fault = none ∧ t.outcome = .finished) = true) ∧
    (∃ t, step paused = .next t ∧ decide (t.fault = none ∧ t.outcome = .pause) = true) ∧
    ∃ t, step busy = .next t ∧ decide (t.fault = none ∧ t.outcome = .cont) = true :=
  ⟨rfl, rfl, rfl, exists_step (by decide +kernel), exists_step (by decide +kernel), exists_step (by decide +kernel)⟩

theorem busy_inv : busy.Inv := ⟨by decide +kernel, by decide +kernel, rfl⟩

theorem doomed_inv : doomed.Inv := ⟨by decide +kernel, by decide +kernel, rfl⟩

/-- For StepKeepsInvariant, also on the step that faults, and HostOperationsKeepInvariant. -/
theorem witness_StepKeepsInvariant :
    (busy.Inv ∧ ∃ t, step busy = .next t ∧ decide (t.fault = none) = true) ∧
    (doomed.Inv ∧ ∃ t, step doomed = .next t ∧ decide (t.fault ≠ none) = true) :=
  ⟨⟨busy_inv, exists_step (by decide +kernel)⟩, doomed_inv, exists_step (by decide +kernel)⟩

theorem witness_ResetStateHasInvariant : Params.wf .standard = true ∧ debugParams.wf = true := by decide +kernel

theorem witness_HostOperationsKeepInvariant : busy.Inv ∧ doomed.Inv := ⟨busy_inv, doomed_inv⟩

theorem witness_ControllerRunKeepsInvariant :
    (doomed.Inv ∧ ∃ record t rest, runUntilFinish 3 [] doomed = .aborted record t rest ∧
      decide (t.fault = some record) = true) ∧
    (doomed.Inv ∧ ∃ n t rest, runUntilFinish 0 [] doomed = .unfinished n t rest ∧ decide (n = 0) = true) ∧
    (State.reset.Inv ∧ ∃ n t rest, runUntilFinish 2 [] State.reset = .returned n t rest ∧ decide (n = 1) = true) :=
  ⟨⟨doomed_inv, exists_aborted (by decide +kernel)⟩, ⟨doomed_inv, exists_unfinished (by decide +kernel)⟩,
    ⟨rfl, by decide +kernel, rfl⟩, exists_returned (by decide +kernel)⟩

/-- For MemoryWriteChangesOneByte, StackPushAndPull (S is 0x00, so a 16-bit push wraps), and
ExportThenImportRestoresTheState. -/
theorem witness_canonical_memory : busy.mem.wf = true ∧ (0x0000 : Word) ≠ 0xFFFF ∧ busy.sp = 0x00 := by decide +kernel

/-- For the frame clause of StoresWriteOneByteAndNoFlag; 0x1300 is the address of absolute,X with X = 1. -/
theorem witness_StoresWriteOneByteAndNoFlag :
    (resolveEa (.absX 0x12FF) busy).addr = 0x1300 ∧ (0x12FF : Word) ≠ 0x1300 ∧
    (∃ t, exec (.sta (.absX 0x12FF)) busy = .next t) ∧ (∃ t, exec (.stz (.absX 0x12FF)) busy = .next t) :=
  ⟨by decide +kernel, by decide, exists_next (by decide +kernel), exists_next (by decide +kernel)⟩

/-- For the frame clauses of RegisterPushesAndPulls and StatusPushAndPull: 0x0101 is not the pushed byte's address. -/
theorem witness_register_and_status_pushes :
    (0x0101 : Word).toNat ≠ 256 + busy.sp.toNat ∧ (∃ t, exec .pha busy = .next t) ∧ (∃ t, exec .phx busy = .next t) ∧
    (∃ t, exec .phy busy = .next t) ∧ ∃ t, exec .php busy = .next t :=
  ⟨by decide +kernel, exists_next (by decide +kernel), exists_next (by decide +kernel), exists_next (by decide +kernel),
    exists_next (by decide +kernel)⟩

/-- For AdcAddsExactly and SbcSubtractsExactly: decimal mode with the operands 99 and 99, and binary mode. -/
theorem witness_decimal_and_binary_operands :
    (busy.flags.d = true ∧ isBcd busy.a ∧ isBcd (readSrc (.imm 0x99) busy).value) ∧ doomed.flags.d = false :=
  ⟨⟨rfl, by unfold isBcd; decide +kernel, by unfold isBcd; decide +kernel⟩, rfl⟩

/-- For the frame clauses of TestAndSetResetBits, IncrementsAndDecrementsWrap and ShiftsAndRotates. -/
theorem witness_read_modify_write_frames :
    (0x0011 : Word) ≠ (resolveEa (.zp 0x10) busy).addr ∧ (∃ t, exec (.tsb (.zp 0x10)) busy = .next t) ∧
    (∃ t, exec (.trb (.zp 0x10)) busy = .next t) ∧ (∃ t, exec (.inc (.mem (.zp 0x10))) busy = .next t) ∧
    (∃ t, exec (.dec (.mem (.zp 0x10))) busy = .next t) ∧ (∃ t, exec (.asl (.mem (.zp 0x10))) busy = .next t) ∧
    (∃ t, exec (.lsr (.mem (.zp 0x10))) busy = .next t) ∧ (∃ t, exec (.rol (.mem (.zp 0x10))) busy = .next t) ∧
    ∃ t, exec (.ror (.mem (.zp 0x10))) busy = .next t :=
  ⟨by decide +kernel, exists_next (by decide +kernel), exists_next (by decide +kernel), exists_next (by decide +kernel),
    exists_next (by decide +kernel), exists_next (by decide +kernel), exists_next (by decide +kernel),
    exists_next (by decide +kernel), exists_next (by decide +kernel)⟩

/-- For ZeroPageBitResetAndSet and BitBranchesTestTheirBit: the first and the last bit number. -/
theorem witness_bit_numbers :
    0 < 8 ∧ 7 < 8 ∧ (0x0011 : Word) ≠ zext16 0x10 ∧ (∃ t, exec (rmb 0 0x10) busy = .next t) ∧
    (∃ t, exec (smb 7 0x10) busy = .next t) ∧ bbr 0 0x10 0x00 = .bbr0 0x10 0x00 ∧ bbs 7 0x10 0x00 = .bbs7 0x10 0x00 :=
  ⟨by decide, by decide, by decide, exists_next (by decide +kernel), exists_next (by decide +kernel), rfl, rfl⟩

/-- For the frame clause of JsrPushesAndRtsReturns: S is 0x00, so the pushed bytes lie at 0x0100 and 0x01FF. -/
theorem witness_JsrPushesAndRtsReturns :
    (∃ t, exec (.jsr 0x0000) busy = .next t) ∧ (0x01FE : Word).toNat ≠ stackAt busy 0 ∧
    (0x01FE : Word).toNat ≠ stackAt busy 255 := ⟨exists_next (by decide +kernel), by decide +kernel, by decide +kernel⟩

/-- For BrkEndsTheRunOrEntersThroughTheVector: both modes, and its frame clause in each. -/
theorem witness_BrkEndsTheRunOrEntersThroughTheVector :
    busy.params.brkMode = .terminal ∧ busyVectored.params.brkMode = .vectored ∧ (∃ t, exec .brk busy = .next t) ∧
    (∃ t, exec .brk busyVectored = .next t) ∧ (0x01FD : Word).toNat ≠ stackAt busyVectored 0 ∧
    (0x01FD : Word).toNat ≠ stackAt busyVectored 255 ∧ (0x01FD : Word).toNat ≠ stackAt busyVectored 254 :=
  ⟨rfl, rfl, exists_next (by decide +kernel), exists_next (by decide +kernel), by decide +kernel⟩

theorem witness_ReturnsUndoCallsAndVectorEntries :
    busyVectored.mem.wf = true ∧ busyVectored.params.brkMode = .vectored := by decide +kernel

theorem witness_UndefinedValuesUnderBothPolicies :
    doomed.params.undefPolicy = .fault ∧ { doomed with params := wdcNopParams }.params.undefPolicy = .wdcNop := ⟨rfl, rfl⟩

theorem witness_DebugOpcodesPauseOrReport :
    debugAll.wf = true ∧ debugAll.breakpoint = some 0xFB ∧ debugAll.regdump = some 0xEB ∧
    debugAll.memdump = some 0x42 := by decide +kernel

theorem witness_UndefinedOpcodeFaultIsPreciseAndFinal :
    (doomed.fault = none ∧ doomed.params.undefPolicy = .fault ∧ memRead doomed doomed.pc ∈ undefinedOpcodes ∧
      memRead doomed doomed.pc ∉ doomed.params.debugOpcodes.values) ∧
    (loadProgram [0xEA] 0x0200 { doomed with fault := some (.unsupportedInstruction 0x03 0x0300) }).refusal = none ∧
    (fromState h6 { doomed with fault := some (.unsupportedInstruction 0x03 0x0300) }).refusal = none := by
  decide +kernel

theorem witness_WhatTheFlagsIBAndDSteer :
    Instr.sed.mnemonic ∉ [Mnemonic.opRegdump, .php, .brk, .adc, .sbc] ∧ Instr.php.mnemonic ≠ .opRegdump := by
  decide +kernel

theorem witness_PauseHandlerFollowsItsProtocol :
    (pauseHandler ["regs", "step", "c"] paused).resumed = true ∧
    (pauseHandler ["Step", "regs"] paused).resumed = false := by
  decide +kernel

/-- A run that Finishes, one that is returned at once, one that stays Paused, one that aborts, a step that faults and a
CPU that has faulted. -/
theorem witness_HowARunEnds :
    { State.reset with runState := RunState.finished }.runState = .finished ∧ doomed.runState = .running ∧
    (∃ u, step doomed = .next u ∧ decide (u.fault = some (.unsupportedInstruction 0x03 0x0300)) = true) ∧
    { doomed with fault := some (.unsupportedInstruction 0x03 0x0300) }.runState = .running ∧
    (∃ n t rest, runUntilFinish 2 [] State.reset = .returned n t rest ∧ decide (t.runState = .finished) = true) ∧
    (∃ n t rest, runUntilFinish 1 [] { State.reset with runState := .finished } = .returned n t rest ∧
      decide (n = 0) = true) ∧
    (∃ n t rest, runUntilFinish 6 [] paused = .returned n t rest ∧ decide (t.runState = .paused ∧ rest = []) = true) ∧
    (∃ record t rest, runUntilFinish 1 [] doomed = .aborted record t rest ∧ decide (t.fault = some record) = true) :=
  ⟨rfl, rfl, exists_step (by decide +kernel), rfl, exists_returned (by decide +kernel), exists_returned (by decide +kernel),
    exists_returned (by decide +kernel), exists_aborted (by decide +kernel)⟩

/-- Each clause: a step with each outcome, without and with single-step, and a handler that resumes and one that is
detached. -/
theorem witness_ControllerTransitions :
    { State.reset with runState := RunState.paused }.runState = .paused ∧
    (∃ u, step busy = .next u ∧ decide (busy.runState = .running ∧ busy.singleStep = false ∧ u.fault = none ∧
      u.outcome = .cont) = true) ∧
    (∃ u, step paused = .next u ∧ decide (paused.runState = .running ∧ paused.singleStep = false ∧ u.fault = none ∧
      u.outcome = .pause) = true) ∧
    (∃ u, step State.reset = .next u ∧ decide (State.reset.runState = .running ∧ State.reset.singleStep = false ∧
      u.fault = none ∧ u.outcome = .finished) = true) ∧
    (∃ u, step { paused with singleStep := true } = .next u ∧ decide (u.fault = none ∧ u.outcome ≠ .finished ∧
      (pauseHandler ["regs"] { u with runState := .paused }).resumed = false ∧
      (pauseHandler ["step"] { u with runState := .paused }).resumed = true) = true) ∧
    ∃ u, step { State.reset with singleStep := true } = .next u ∧ decide (u.fault = none ∧ u.outcome = .finished ∧
      (pauseHandler ["c"] { u with runState := .paused }).resumed = true) = true :=
  ⟨rfl, exists_step (by decide +kernel), exists_step (by decide +kernel), exists_step (by decide +kernel),
    exists_step (by decide +kernel), exists_step (by decide +kernel)⟩

theorem witness_RunStepsAreBareSteps :
    ∃ n t rest, runUntilFinish 6 ["step"] paused = .returned n t rest ∧ decide (n = 2) = true :=
  exists_returned (by decide +kernel)

/-- The longest program at 0xFFFF, the first that is too long, and an address on each side of the placed byte. -/
theorem witness_LoadProgramPlacesBytesOrRefuses :
    busy.mem.wf = true ∧ (0xFFFE : Word).toNat + [0xEA, 0xEA].length ≤ 65536 ∧
    65536 < (0xFFFF : Word).toNat + [0xEA, 0xEA].length ∧ ([0xEA, 0x00] : List Byte)[1]? = some 0x00 ∧
    0xFFFD < (0xFFFE : Word).toNat ∧ (0x0200 : Word).toNat + [0xEA].length ≤ 0x0201 := by decide +kernel

theorem witness_SnapshotImportSetsStateOrRejects :
    h6.fields.isSome = true ∧ (fromState h6 busy).refusal = none ∧
    (fromState { h6 with p := some 0x100 } busy).refusal ≠ none ∧ (h6.memory.map Prod.fst).Nodup ∧
    0x0301 ∉ h6.memory.map Prod.fst := by decide +kernel

/-- Every register at its largest value and a key and a value at the edge of their ranges (70 R324). -/
theorem test_snapshot_boundaries :
    (fromState { pc := some 65535, a := some 255, x := some 255, y := some 255, s := some 255, p := some 255,
                 memory := [(65535, 255)] } busy).refusal = none ∧
    (fromState { h6 with pc := some 65536 } busy).refusal = some .fieldTooWide := by decide +kernel

/-- A row of the opcode list of each instruction statement meets the premise of `Rows`. -/
theorem witness_rows :
    (AddrMode.immediate, (0xA9 : Byte)) ∈ [(AddrMode.zeroPage, (0xA5 : Byte)), (.immediate, 0xA9)] ∧
    (Instr.lda (.imm 0x00)).mode = .immediate := by decide +kernel

end Sys2Proof.Tests
end

section
/-! PROOFS. Packed P (10_state.md R18, R19, R23): its bits, the two round trips, and the byte that PHP and BRK push. -/

namespace Sys2Proof.Machine

/-- The packed byte lists its bits from bit 0 on (10 R18). -/
theorem Flags.pack_eq_ofBoolListLE (f : Flags) :
    f.pack = BitVec.ofBoolListLE [f.c, f.z, f.i, f.d, f.b, pBit5, f.v, f.n] := by
  have bound (b : Bool) : b.toNat ≤ 1 := b.toNat_le
  have := bound f.c; have := bound f.z; have := bound f.i; have := bound f.d
  have := bound f.b; have := bound f.v; have := bound f.n
  apply BitVec.eq_of_toNat_eq
  simp [Flags.pack, BitVec.ofBoolListLE, BitVec.toNat_concat, pBit5]
  omega

theorem Flags.pack_getLsbD (f : Flags) (k : Nat) :
    f.pack.getLsbD k = [f.c, f.z, f.i, f.d, f.b, pBit5, f.v, f.n].getD k false := by
  rw [Flags.pack_eq_ofBoolListLE]
  exact BitVec.getLsbD_ofBoolListLE

theorem Flags.unpack_pack (f : Flags) : Flags.unpack f.pack = f := by
  simp only [Flags.unpack, Flags.pack_getLsbD, List.getD_cons_zero, List.getD_cons_succ]

theorem Flags.pack_unpack (p : Byte) :
    (Flags.unpack p).pack = (p &&& 0xDF) ||| (if pBit5 then 0x20 else 0x00) := by
  apply BitVec.eq_of_getLsbD_eq
  intro k hk
  rw [Flags.pack_getLsbD]
  interval_cases k <;> simp [Flags.unpack, pBit5]

/-- The pushed byte does not show B: its bit 4 is 1 in any case (10 R23). -/
theorem Flags.pushedByte_of_b (f : Flags) (v : Bool) : Flags.pushedByte { f with b := v } = f.pushedByte := by
  apply BitVec.eq_of_getLsbD_eq
  intro k hk
  simp only [Flags.pushedByte, BitVec.getLsbD_or, Flags.pack_getLsbD]
  interval_cases k <;> simp

/-- Z and N of a byte, on numbers. -/
theorem Flags.withZN_eq_znOf (f : Flags) (v : Byte) : f.withZN v = Spec.znOf f v := by
  have hz : decide (v = 0) = decide (v.toNat = 0) := by simp [← BitVec.toNat_inj]
  have hn : v.getLsbD 7 = decide (128 ≤ v.toNat) := (BitVec.msb_eq_getLsbD_last v).symm.trans (BitVec.msb_eq_decide v)
  simp only [Flags.withZN, Spec.znOf, hz, hn]

end Sys2Proof.Machine

namespace Sys2Proof.StateProofs

open Sys2Proof.Machine

/-- Settles O18: the three parts are the lemmas on the packed byte. -/
theorem packAndUnpackOfP : Obligations.PackAndUnpackOfP := by
  unfold Obligations.PackAndUnpackOfP
  refine ⟨fun f => ?_, Flags.unpack_pack, Flags.pack_unpack⟩
  have bit := f.pack_getLsbD
  exact ⟨bit 0, bit 1, bit 2, bit 3, bit 4, bit 5, bit 6, bit 7⟩

end Sys2Proof.StateProofs
end

section
/-! PROOFS. What any instruction can do, said once: every answer of `exec` has one of six effects on the registers and
the flags. The frame statements are read off these effects. -/

namespace Sys2Proof.Machine

open Sys2Proof.Spec

/-- Each flag has in `f` the value it has in `s`, unless 10 R20 lists instruction `k` among its writers. -/
structure FlagsKept (k : Instr) (s : State) (f : Flags) : Prop where
  c : writesC k = true ∨ f.c = s.flags.c
  z : writesZ k = true ∨ f.z = s.flags.z
  i : writesI k s = true ∨ f.i = s.flags.i
  d : writesD k s = true ∨ f.d = s.flags.d
  b : writesB k = true ∨ f.b = s.flags.b
  v : writesV k = true ∨ f.v = s.flags.v
  n : writesN k = true ∨ f.n = s.flags.n

/-- The effects of an instruction on the registers and the flags. PC, memory, the cycles and the outcome are free; the
controller state, the parameters and, but for the last effect, the fault stay. -/
inductive Effect (i : Instr) (s : State) : State → Prop
  /-- A, X, Y and the flags stay: stores, branches, jumps, pushes, TXS, the dumps. -/
  | keeps {pc sp mem cycles out log} (hA : writesA i = false) (hX : writesX i = false) (hY : writesY i = false)
      (hS : i ≠ .txs → sp = s.sp + spStep i s) (hlog : i.mnemonic ∉ [.opRegdump, .opMemdump] → log = s.log) :
      Effect i s { s with pc := pc, sp := sp, mem := mem, totalCycles := cycles, outcome := out, log := log }
  /-- A byte goes to A through `setA`; the ALU and the shifts may have set C and V before. -/
  | setsA {v c o pc sp cycles out} (hA : writesA i = true) (hX : writesX i = false) (hY : writesY i = false)
      (hS : sp = s.sp + spStep i s) (hc : writesC i = true ∨ c = s.flags.c) (ho : writesV i = true ∨ o = s.flags.v) :
      Effect i s { s with
        a := v, flags := (s.flags.withCV c o).withZN v, pc := pc, sp := sp, totalCycles := cycles, outcome := out }
  /-- A byte goes to X through `setX`. -/
  | setsX {v pc sp cycles out} (hA : writesA i = false) (hX : writesX i = true) (hY : writesY i = false)
      (hS : sp = s.sp + spStep i s) :
      Effect i s { s with
        x := v, flags := s.flags.withZN v, pc := pc, sp := sp, totalCycles := cycles, outcome := out }
  /-- A byte goes to Y through `setY`. -/
  | setsY {v pc sp cycles out} (hA : writesA i = false) (hX : writesX i = false) (hY : writesY i = true)
      (hS : sp = s.sp + spStep i s) :
      Effect i s { s with
        y := v, flags := s.flags.withZN v, pc := pc, sp := sp, totalCycles := cycles, outcome := out }
  /-- Flags change and no register but S: compares, bit tests, memory forms, flag instructions, P pulled, BRK. -/
  | setsFlags {f pc sp mem cycles out} (hA : writesA i = false) (hX : writesX i = false) (hY : writesY i = false)
      (hS : sp = s.sp + spStep i s) (hf : FlagsKept i s f) :
      Effect i s { s with flags := f, pc := pc, sp := sp, mem := mem, totalCycles := cycles, outcome := out }
  /-- An undefined value under `fault` is recorded and nothing else changes. -/
  | faults {r} (hi : i.mnemonic = .undefined) (hpol : s.params.undefPolicy = .fault) :
      Effect i s { s with fault := some r }

/-! The tables of writers. A check of the mnemonic alone settles most rows, whatever the operand form. -/

theorem ea_mode_ne_accumulator (ea : Ea) : ea.mode ≠ .accumulator := by cases ea <;> exact fun h => nomatch h

theorem ea_mode_ne_immediate (ea : Ea) : ea.mode ≠ .immediate := by cases ea <;> exact fun h => nomatch h

theorem writesA_eq_false {i : Instr}
    (h : decide (i.mnemonic ∈ [.lda, .pla, .txa, .tya, .adc, .sbc, .and, .ora, .eor]) = false)
    (h' : decide (i.mnemonic ∈ [.asl, .lsr, .rol, .ror, .inc, .dec]) = false) : writesA i = false := by
  simp only [writesA, h, h', Bool.and_false, Bool.or_false]

theorem writesN_eq_true {i : Instr}
    (h : decide (i.mnemonic ∈ [.cmp, .cpx, .cpy, .asl, .lsr, .rol, .ror, .inc, .dec, .plp, .rti]) = true) :
    writesN i = true := by
  simp only [writesN, h, Bool.or_true, Bool.true_or]

theorem writesZ_of_writesN {i : Instr} (h : writesN i = true) : writesZ i = true := by
  simp only [writesZ, h, Bool.true_or]

/-- Z has every writer of N and the bit tests. -/
theorem writesZ_eq_true {i : Instr} (h : decide (i.mnemonic ∈ [.bit, .tsb, .trb]) = true) : writesZ i = true := by
  simp only [writesZ, h, Bool.or_true]

/-- A compare gives C, Z and N. -/
theorem compare_kept {i : Instr} {s : State} {r op : Byte} (hC : writesC i = true)
    (h : decide (i.mnemonic ∈ [.cmp, .cpx, .cpy, .asl, .lsr, .rol, .ror, .inc, .dec, .plp, .rti]) = true) :
    FlagsKept i s (s.flags.withCompare r op) :=
  have hN := writesN_eq_true h
  ⟨.inl hC, .inl (writesZ_of_writesN hN), .inr rfl, .inr rfl, .inr rfl, .inr rfl, .inl hN⟩

/-- PLP and RTI are among the writers of every flag (10 R20). -/
theorem status_kept {i : Instr} {s : State} {f : Flags} (h : decide (i.mnemonic ∈ [.plp, .rti]) = true) :
    FlagsKept i s f := by
  simp only [List.mem_cons, List.not_mem_nil, or_false, decide_eq_true_eq] at h
  rcases h with h | h <;> constructor <;> left <;>
    simp [writesC, writesZ, writesI, writesD, writesB, writesV, writesN, h]

/-! The effect of each shared ending of an instruction. -/

/-- A branch moves PC at most. -/
theorem completeBranch_effect {i : Instr} {taken : Bool} {target : Word} {s t : State}
    (hA : writesA i = false) (hX : writesX i = false) (hY : writesY i = false) (hS : s.sp = s.sp + spStep i s)
    (h : completeBranch i taken target (fetchOperands i s) = .next t) : Effect i s t := by
  cases taken <;> obtain rfl := complete_next h
  all_goals exact .keeps hA hX hY (fun _ => hS) (fun _ => rfl)

/-- Flags change, and nothing else. -/
theorem setFlags_effect {i : Instr} {f : Flags} {extra : Nat} {s t : State}
    (h : complete i extra .cont (setFlags f (fetchOperands i s)) = .next t)
    (hA : writesA i = false) (hX : writesX i = false) (hY : writesY i = false) (hS : s.sp = s.sp + spStep i s)
    (hf : FlagsKept i s f) : Effect i s t := by
  obtain rfl := complete_next h
  exact .setsFlags hA hX hY hS hf

/-- RMB and SMB change memory only. -/
theorem modifyZeroPage_effect {i : Instr} {f : Byte → Byte} {zp8 : Byte} {s t : State}
    (hA : writesA i = false) (hX : writesX i = false) (hY : writesY i = false) (hS : s.sp = s.sp + spStep i s)
    (h : complete i 0 .cont (modifyZeroPage f zp8 (fetchOperands i s)) = .next t) : Effect i s t := by
  obtain rfl := complete_next h
  exact .keeps hA hX hY (fun _ => hS) (fun _ => rfl)

/-- A push steps S down by one. -/
theorem push_effect {i : Instr} {v : Byte} {s t : State}
    (hA : writesA i = false) (hX : writesX i = false) (hY : writesY i = false) (hS : spStep i s = 0xFF)
    (h : complete i 0 .cont (push v (fetchOperands i s)) = .next t) : Effect i s t := by
  have hS : s.sp - 1 = s.sp + spStep i s := hS ▸ BitVec.sub_eq_add_neg ..
  rw [push_eq] at h
  obtain rfl := complete_next h
  exact .keeps hA hX hY (fun _ => hS) (fun _ => rfl)

/-- A read-modify-write instruction gives Z and N, a shift C before that; its result goes to A or to memory. -/
theorem writeRmw_effect {i : Instr} {op : Rmw} {s t : State} {v : Byte} {c : Bool} {extra : Nat} {out : StepOutcome}
    (hmode : i.mode = op.mode) (hi : decide (i.mnemonic ∈ [.asl, .lsr, .rol, .ror, .inc, .dec]) = true)
    (hi' : decide (i.mnemonic ∈ [.lda, .pla, .txa, .tya, .adc, .sbc, .and, .ora, .eor]) = false)
    (hX : writesX i = false) (hY : writesY i = false)
    (hN : decide (i.mnemonic ∈ [.cmp, .cpx, .cpy, .asl, .lsr, .rol, .ror, .inc, .dec, .plp, .rti]) = true)
    (hS : s.sp = s.sp + spStep i s) (hc : writesC i = true ∨ c = s.flags.c)
    (h : complete i extra out (writeRmw op v (setFlags (s.flags.withC c) (fetchOperands i s))) = .next t) :
    Effect i s t := by
  obtain rfl := complete_next h
  cases op with
  | acc =>
    have hA : writesA i = true := by simp only [writesA, hmode, hi, Rmw.mode, decide_true, Bool.and_true, Bool.or_true]
    exact .setsA (c := c) (o := s.flags.v) hA hX hY hS hc (.inr rfl)
  | mem ea =>
    have hA : writesA i = false := by
      simp only [writesA, hmode, Rmw.mode, ea_mode_ne_accumulator, hi', decide_false, Bool.false_and, Bool.or_false]
    have hN := writesN_eq_true hN
    exact .setsFlags hA hX hY hS
      ⟨hc, .inl (writesZ_of_writesN hN), .inr rfl, .inr rfl, .inr rfl, .inr rfl, .inl hN⟩

/-- BIT gives Z, and N and V in every form but the immediate one. -/
theorem execBit_effect {op : Src} {s t : State} (h : execBit op s = .next t) : Effect (.bit op) s t := by
  have hZ : writesZ (.bit op) = true := writesZ_eq_true rfl
  refine setFlags_effect h (writesA_eq_false rfl rfl) rfl rfl (BitVec.add_zero s.sp).symm ?_
  cases op with
  | imm b => exact ⟨.inr rfl, .inl hZ, .inr rfl, .inr rfl, .inr rfl, .inr rfl, .inr rfl⟩
  | mem ea =>
    have himm : (Instr.bit (.mem ea)).mode ≠ .immediate := ea_mode_ne_immediate ea
    have hV : writesV (.bit (.mem ea)) = true := by simp [writesV, himm, Instr.mnemonic]
    have hN : writesN (.bit (.mem ea)) = true := by simp [writesN, himm, Instr.mnemonic]
    exact ⟨.inr rfl, .inl hZ, .inr rfl, .inr rfl, .inr rfl, .inl hV, .inl hN⟩

theorem pushWord_eq (w : Word) (s : State) :
    pushWord w s = { s with sp := s.sp - 1 - 1, mem := (pushWord w s).mem } := by
  simp [pushWord, push_eq]

/-- JSR steps S down by two. -/
theorem execJsr_effect {addr : Word} {s t : State} (h : execJsr addr s = .next t) : Effect (.jsr addr) s t := by
  have hS : s.sp - 1 - 1 = s.sp + spStep (.jsr addr) s := by
    rw [show spStep (.jsr addr) s = 0xFE from rfl]
    bv_omega
  rw [execJsr, pushWord_eq] at h
  obtain rfl := complete_next h
  exact .keeps rfl rfl rfl (fun _ => hS) (fun _ => rfl)

/-- RTI steps S up by three and loads P. -/
theorem execRti_effect {s t : State} (h : execRti s = .next t) : Effect .rti s t := by
  have hS : s.sp + 1 + 1 + 1 = s.sp + spStep .rti s := by
    rw [show spStep .rti s = 3 from rfl]
    bv_omega
  rw [execRti, returnFromBrk_eq] at h
  obtain rfl := complete_next h
  exact .setsFlags rfl rfl rfl hS (status_kept rfl)

theorem spStep_brk (s : State) : spStep .brk s = if s.params.brkMode = .vectored then 0xFD else 0 := rfl

/-- Terminal BRK moves PC only; vectored BRK pushes three bytes, sets I and clears D. -/
theorem execBrk_effect {s t : State} (h : execBrk s = .next t) : Effect .brk s t := by
  rw [execBrk, fetchOperands_params] at h
  cases hb : s.params.brkMode with
  | terminal =>
    have hS : s.sp = s.sp + spStep .brk s := by simp [spStep_brk, hb]
    simp only [hb] at h
    obtain rfl := complete_next h
    exact .keeps rfl rfl rfl (fun _ => hS) (fun _ => rfl)
  | vectored =>
    have hS : s.sp - 1 - 1 - 1 = s.sp + spStep .brk s := by
      rw [spStep_brk, if_pos hb]
      bv_omega
    have hv : isVectoredBrk .brk s = true := by simp [isVectoredBrk, hb, Instr.mnemonic]
    simp only [hb, enterBrk_eq] at h
    obtain rfl := complete_next h
    exact .setsFlags rfl rfl rfl hS
      ⟨.inr rfl, .inr rfl, .inl hv, .inl hv, .inr rfl, .inr rfl, .inr rfl⟩

/-- An undefined value faults or, under `wdc_nop`, takes its bytes and its time. -/
theorem execUndefined_effect {form : UndefForm} {s t : State} (h : execUndefined form s = .next t) :
    Effect (.undefined form) s t := by
  unfold execUndefined at h
  cases hpol : s.params.undefPolicy with
  | fault =>
    obtain rfl := raiseFault_next (by simpa only [hpol] using h)
    exact .faults rfl hpol
  | wdcNop =>
    obtain rfl := complete_next (by simpa only [hpol] using h)
    exact .keeps (writesA_eq_false rfl rfl) rfl rfl (fun _ => (BitVec.add_zero s.sp).symm) (fun _ => rfl)

/-- Every answer has one of the six effects. -/
theorem exec_effect {i : Instr} {s t : State} (h : exec i s = .next t) : Effect i s t := by
  have noStep : s.sp = s.sp + 0 := (BitVec.add_zero s.sp).symm
  cases i with
  | rmb0 | rmb1 | rmb2 | rmb3 | rmb4 | rmb5 | rmb6 | rmb7 | smb0 | smb1 | smb2 | smb3 | smb4 | smb5 | smb6 | smb7 =>
    exact modifyZeroPage_effect rfl rfl rfl noStep h
  | sta | stx | sty | stz | jmp | nop | wai | stp | opBreakpoint =>
    obtain rfl := complete_next h
    exact .keeps (writesA_eq_false rfl rfl) rfl rfl (fun _ => noStep) (fun _ => rfl)
  | opRegdump | opMemdump =>
    obtain rfl := complete_next h
    exact .keeps rfl rfl rfl (fun _ => noStep) (fun hi => absurd (by decide) hi)
  | bcc | bcs | beq | bne | bmi | bpl | bvc | bvs | bra | bbr0 | bbr1 | bbr2 | bbr3 | bbr4 | bbr5 | bbr6 | bbr7 | bbs0
  | bbs1 | bbs2 | bbs3 | bbs4 | bbs5 | bbs6 | bbs7 =>
    exact completeBranch_effect rfl rfl rfl noStep h
  | pha | phx | phy | php => exact push_effect rfl rfl rfl rfl h
  | jsr => exact execJsr_effect h
  | rts =>
    obtain rfl := complete_next h
    exact .keeps rfl rfl rfl (fun _ => BitVec.add_assoc s.sp 1 1) (fun _ => rfl)
  | txs =>
    obtain rfl := complete_next h
    exact .keeps rfl rfl rfl (fun hi => absurd rfl hi) (fun _ => rfl)
  | lda | txa | tya | and | ora | eor =>
    obtain rfl := complete_next h
    exact .setsA (c := s.flags.c) (o := s.flags.v) rfl rfl rfl noStep (.inr rfl) (.inr rfl)
  | pla =>
    obtain rfl := complete_next h
    exact .setsA (c := s.flags.c) (o := s.flags.v) rfl rfl rfl rfl (.inr rfl) (.inr rfl)
  | adc | sbc =>
    obtain rfl := complete_next h
    exact .setsA rfl rfl rfl noStep (.inl rfl) (.inl rfl)
  | ldx | tax | tsx | inx | dex =>
    obtain rfl := complete_next h
    exact .setsX (writesA_eq_false rfl rfl) rfl rfl noStep
  | plx =>
    obtain rfl := complete_next h
    exact .setsX rfl rfl rfl rfl
  | ldy | tay | iny | dey =>
    obtain rfl := complete_next h
    exact .setsY (writesA_eq_false rfl rfl) rfl rfl noStep
  | ply =>
    obtain rfl := complete_next h
    exact .setsY rfl rfl rfl rfl
  | asl | lsr | rol | ror => exact writeRmw_effect rfl rfl rfl rfl rfl rfl noStep (.inl rfl) h
  | inc | dec => exact writeRmw_effect (c := s.flags.c) rfl rfl rfl rfl rfl rfl noStep (.inr rfl) h
  | cmp | cpx | cpy => exact setFlags_effect h (writesA_eq_false rfl rfl) rfl rfl noStep (compare_kept rfl rfl)
  | tsb | trb =>
    obtain rfl := complete_next h
    exact .setsFlags (writesA_eq_false rfl rfl) rfl rfl noStep
      ⟨.inr rfl, .inl (writesZ_eq_true rfl), .inr rfl, .inr rfl, .inr rfl, .inr rfl, .inr rfl⟩
  | bit op => exact execBit_effect h
  | clc | sec =>
    exact setFlags_effect h rfl rfl rfl noStep ⟨.inl rfl, .inr rfl, .inr rfl, .inr rfl, .inr rfl, .inr rfl, .inr rfl⟩
  | cli | sei =>
    exact setFlags_effect h rfl rfl rfl noStep ⟨.inr rfl, .inr rfl, .inl rfl, .inr rfl, .inr rfl, .inr rfl, .inr rfl⟩
  | cld | sed =>
    exact setFlags_effect h rfl rfl rfl noStep ⟨.inr rfl, .inr rfl, .inr rfl, .inl rfl, .inr rfl, .inr rfl, .inr rfl⟩
  | clv =>
    exact setFlags_effect h rfl rfl rfl noStep ⟨.inr rfl, .inr rfl, .inr rfl, .inr rfl, .inr rfl, .inl rfl, .inr rfl⟩
  | plp =>
    obtain rfl := complete_next h
    exact .setsFlags rfl rfl rfl rfl (status_kept rfl)
  | rti => exact execRti_effect h
  | brk => exact execBrk_effect h
  | undefined form => exact execUndefined_effect h

/-- Only an undefined value under `fault` changes the fault. -/
theorem fault_of_exec {i : Instr} {s t : State} (hi : i.mnemonic ≠ .undefined ∨ s.params.undefPolicy = .wdcNop)
    (h : exec i s = .next t) : t.fault = s.fault := by
  cases exec_effect h with
  | faults hundef hpol => simp [hundef, hpol] at hi
  | _ => rfl

end Sys2Proof.Machine

namespace Sys2Proof.StateProofs

open Sys2Proof.Machine Sys2Proof.Spec

/-- Settles O9: no effect touches the controller state or the parameters, and only the fault's touches the fault. -/
theorem controllerParametersAndLogFrame : Obligations.ControllerParametersAndLogFrame := by
  unfold Obligations.ControllerParametersAndLogFrame
  intro i s t h
  cases exec_effect h with
  | keeps _ _ _ _ hlog => exact ⟨rfl, rfl, rfl, fun hi => fault_of_exec (.inl hi) h, hlog⟩
  | _ => exact ⟨rfl, rfl, rfl, fun hi => fault_of_exec (.inl hi) h, fun _ => rfl⟩

/-- No undefined value steps S. -/
theorem spStep_of_undefined {i : Instr} (hi : i.mnemonic = .undefined) (s : State) : spStep i s = 0 := by
  cases i with
  | undefined form => rfl
  | _ => exact nomatch hi

/-- Settles O47: each effect tells which register it writes and how far S moves. -/
theorem registersHaveOnlyTheirWriters : Obligations.RegistersHaveOnlyTheirWriters := by
  unfold Obligations.RegistersHaveOnlyTheirWriters
  intro i s t h
  cases exec_effect h with
  | keeps _ _ _ hS _ => exact ⟨fun _ => rfl, fun _ => rfl, fun _ => rfl, hS⟩
  | setsA hA _ _ hS _ _ => exact ⟨fun hA' => by simp [hA] at hA', fun _ => rfl, fun _ => rfl, fun _ => hS⟩
  | setsX _ hX _ hS => exact ⟨fun _ => rfl, fun hX' => by simp [hX] at hX', fun _ => rfl, fun _ => hS⟩
  | setsY _ _ hY hS => exact ⟨fun _ => rfl, fun _ => rfl, fun hY' => by simp [hY] at hY', fun _ => hS⟩
  | setsFlags _ _ _ hS _ => exact ⟨fun _ => rfl, fun _ => rfl, fun _ => rfl, fun _ => hS⟩
  | faults hi =>
    have hS : s.sp = s.sp + spStep i s := by simp [spStep_of_undefined hi]
    exact ⟨fun _ => rfl, fun _ => rfl, fun _ => rfl, fun _ => hS⟩

/-- Every effect keeps the flags outside their writers. -/
theorem flagsKept_of_exec {i : Instr} {s t : State} (h : exec i s = .next t) : FlagsKept i s t.flags := by
  have keptZN {i : Instr} (v : Byte) (hN : writesN i = true) : FlagsKept i s (s.flags.withZN v) :=
    ⟨.inr rfl, .inl (writesZ_of_writesN hN), .inr rfl, .inr rfl, .inr rfl, .inr rfl, .inl hN⟩
  cases exec_effect h with
  | keeps | faults => exact ⟨.inr rfl, .inr rfl, .inr rfl, .inr rfl, .inr rfl, .inr rfl, .inr rfl⟩
  | setsA hA _ _ _ hc ho =>
    have hN : writesN i = true := by simp [writesN, hA]
    exact ⟨hc, .inl (writesZ_of_writesN hN), .inr rfl, .inr rfl, .inr rfl, ho, .inl hN⟩
  | setsX _ hX => exact keptZN _ (by simp [writesN, hX])
  | setsY _ _ hY => exact keptZN _ (by simp [writesN, hY])
  | setsFlags _ _ _ _ hf => exact hf

/-- What is kept outside a row of writers is kept by an instruction outside that row. -/
theorem kept_outside {w : Bool} {p : Prop} (hk : w = true ∨ p) (hw : w = false) : p := hk.resolve_left (by simp [hw])

/-- Settles O48: each flag is kept outside its row of writers. -/
theorem flagsHaveOnlyTheirWriters : Obligations.FlagsHaveOnlyTheirWriters := by
  unfold Obligations.FlagsHaveOnlyTheirWriters
  intro i s t h
  have kept := flagsKept_of_exec h
  exact ⟨kept_outside kept.c, kept_outside kept.z, kept_outside kept.i, kept_outside kept.d, kept_outside kept.b,
    kept_outside kept.v, kept_outside kept.n⟩

/-- The instructions that move S alone stand in no row of flag writers, so all seven flags are kept. -/
theorem flags_eq_of_kept {i : Instr} {s : State} {f : Flags} (hf : FlagsKept i s f)
    (hi : i.mnemonic ∈ [.txs, .pha, .phx, .phy, .php, .jsr, .rts]) : f = s.flags := by
  have inNoRow : writesC i = false ∧ writesZ i = false ∧ writesI i s = false ∧ writesD i s = false ∧
      writesB i = false ∧ writesV i = false ∧ writesN i = false := by
    simp only [List.mem_cons, List.not_mem_nil, or_false] at hi
    rcases hi with h | h | h | h | h | h | h <;>
      simp [writesC, writesZ, writesI, writesD, writesB, writesV, writesN, writesA, writesX, writesY, isVectoredBrk, h]
  obtain ⟨hc, hz, hi, hd, hb, hv, hn⟩ := inNoRow
  rw [show f = ⟨f.c, f.z, f.i, f.d, f.b, f.v, f.n⟩ from rfl, kept_outside hf.c hc, kept_outside hf.z hz,
    kept_outside hf.i hi, kept_outside hf.d hd, kept_outside hf.b hb, kept_outside hf.v hv, kept_outside hf.n hn]

/-- Settles O49: A, X and Y are written through their setters alone, and S by instructions in no row of flag writers. -/
theorem registerWritesDeriveZN : Obligations.RegisterWritesDeriveZN := by
  unfold Obligations.RegisterWritesDeriveZN
  intro i s t h
  have hflags := fun hi => flags_eq_of_kept (flagsKept_of_exec h) hi
  have derived (f : Flags) (v : Byte) :
      (f.withZN v).z = decide (v.toNat = 0) ∧ (f.withZN v).n = decide (128 ≤ v.toNat) := by
    rw [Flags.withZN_eq_znOf]; exact ⟨rfl, rfl⟩
  have unwritten {w : Bool} {p : Prop} (hw : w = false) (hw' : w = true) : p := by simp [hw] at hw'
  cases exec_effect h with
  | keeps hA hX hY | setsFlags hA hX hY => exact ⟨unwritten hA, unwritten hX, unwritten hY, hflags⟩
  | setsA hA hX hY => exact ⟨fun _ => derived _ _, unwritten hX, unwritten hY, hflags⟩
  | setsX hA hX hY => exact ⟨unwritten hA, fun _ => derived _ _, unwritten hY, hflags⟩
  | setsY hA hX hY => exact ⟨unwritten hA, unwritten hX, fun _ => derived _ _, hflags⟩
  | faults hi =>
    exact ⟨unwritten (by simp [writesA, hi]), unwritten (by simp [writesX, hi]), unwritten (by simp [writesY, hi]),
      hflags⟩

end Sys2Proof.StateProofs
end

section
/-! PROOFS. What no instruction reads, said once: the cycle total, the controller state, the last outcome, and the flags
I, D and B outside the few instructions that use them. An instruction completes alike from two states that differ only
in these. -/

namespace Sys2Proof.Machine

open Sys2Proof.Spec

/-- A change of what most instructions do not read: `cycles` more in the total, and a value for each field of the
controller state and each of the flags I, D and B that is to change. -/
structure Unread where
  cycles : Nat
  runState : Option RunState
  singleStep : Option Bool
  i : Option Bool
  d : Option Bool
  b : Option Bool

/-- No change. -/
def Unread.nothing : Unread := { cycles := 0, runState := none, singleStep := none, i := none, d := none, b := none }

/-- The flags after the change. -/
def Unread.flags (p : Unread) (f : Flags) : Flags :=
  { f with i := p.i.getD f.i, d := p.d.getD f.d, b := p.b.getD f.b }

/-- The state after the change. -/
def Unread.apply (p : Unread) (s : State) : State :=
  { s with
    totalCycles := s.totalCycles + p.cycles, runState := p.runState.getD s.runState,
    singleStep := p.singleStep.getD s.singleStep, flags := p.flags s.flags }

/-- The change before an instruction: the last outcome is another one too, which the instruction overwrites. -/
def Unread.before (p : Unread) (o : StepOutcome) (s : State) : State := { p.apply s with outcome := o }

/-- A new value of a flag is lost when the flag is written. -/
def unlessWritten (written : Bool) (v : Option Bool) : Option Bool := if written then none else v

@[simp] theorem unlessWritten_none (written : Bool) : unlessWritten written none = none := by cases written <;> rfl

/-- What remains of the change after an instruction: the flags it writes are its own. -/
def Unread.after (p : Unread) (k : Instr) (s : State) : Unread :=
  { p with
    i := unlessWritten (writesI k s) p.i, d := unlessWritten (writesD k s) p.d, b := unlessWritten (writesB k) p.b }

/-- The change spares the flags that the instruction uses: I and D where P is pushed, D in decimal arithmetic, all
three in the register dump. -/
structure Unread.Spares (p : Unread) (k : Instr) : Prop where
  pushed : k.mnemonic ∈ [.php, .brk] → p.i = none ∧ p.d = none
  decimal : k.mnemonic ∈ [.adc, .sbc] → p.d = none
  reported : k.mnemonic = .opRegdump → p.i = none ∧ p.d = none ∧ p.b = none

section Alike

variable {p : Unread} {o : StepOutcome} {s : State}

theorem complete_before (i : Instr) (extra : Nat) (out : StepOutcome) :
    complete i extra out (p.before o s) = mapNext p.apply (complete i extra out s) := by
  simp [complete_eq, mapNext, Unread.before, Unread.apply, Nat.add_right_comm]

/-- Two completions of one instruction correspond when the states before it do, but for the outcome. -/
theorem completes_alike {A A' : Answer} {i : Instr} {extra : Nat} {out : StepOutcome} {u : State}
    (h : A = complete i extra out u) (h' : A' = complete i extra out (p.before o u)) : A' = mapNext p.apply A := by
  rw [h', h, complete_before]

/-! The shared operations do not see the change. -/

theorem completeBranch_before (i : Instr) (taken : Bool) (target : Word) :
    completeBranch i taken target (p.before o s) = mapNext p.apply (completeBranch i taken target s) := by
  cases taken <;> exact completes_alike rfl rfl

/-- The same for two branches. -/
theorem branches_alike {A A' : Answer} {i : Instr} {taken : Bool} {target : Word} {u : State}
    (h : A = completeBranch i taken target u) (h' : A' = completeBranch i taken target (p.before o u)) :
    A' = mapNext p.apply A := by
  rw [h', h, completeBranch_before]

theorem resolveEa_before (ea : Ea) : resolveEa ea (p.before o s) = resolveEa ea s := resolveEa_congr rfl rfl rfl ea

theorem readSrc_before (op : Src) : readSrc op (p.before o s) = readSrc op s := readSrc_congr rfl rfl rfl op

theorem readRmw_before (op : Rmw) : readRmw op (p.before o s) = readRmw op s := readRmw_congr rfl rfl rfl rfl op

theorem writeRmw_before (op : Rmw) (v : Byte) : writeRmw op v (p.before o s) = p.before o (writeRmw op v s) := by
  cases op with
  | acc => rfl
  | mem ea => rw [writeRmw_mem, writeRmw_mem, resolveEa_before]; rfl

theorem setPc_before (w : Word) : setPc w (p.before o s) = p.before o (setPc w s) := rfl

theorem push_before (v : Byte) : push v (p.before o s) = p.before o (push v s) := rfl

theorem pushWord_before (w : Word) : pushWord w (p.before o s) = p.before o (pushWord w s) := by
  simp only [pushWord, push_before]

theorem afterPull_before : afterPull (p.before o s) = p.before o (afterPull s) := rfl

theorem returnFromBrk_before :
    returnFromBrk (p.before o s) = Unread.before { p with i := none, d := none, b := none } o (returnFromBrk s) := by
  rw [returnFromBrk_eq, returnFromBrk_eq]
  rfl

/-- The pushed status byte shows I and D, and not B. -/
theorem pushedByte_flags {p : Unread} (hi : p.i = none) (hd : p.d = none) (f : Flags) :
    (p.flags f).pushedByte = f.pushedByte := by
  have : p.flags f = { f with b := p.b.getD f.b } := by simp [Unread.flags, hi, hd]
  rw [this, Flags.pushedByte_of_b]

/-- Entry through the vector pushes P, sets I and clears D, so it sees no change of B. -/
theorem enterBrk_before {p : Unread} (hi : p.i = none) (hd : p.d = none) (ret : Word) :
    enterBrk ret (p.before o s) = p.before o (enterBrk ret s) := by
  have hP : (p.before o s).flags.pushedByte = s.flags.pushedByte := pushedByte_flags hi hd s.flags
  rw [enterBrk_eq, enterBrk_eq, hP, pushWord_before, push_before]
  obtain ⟨cycles, run, single, i, d, b⟩ := p
  obtain rfl : i = none := hi
  obtain rfl : d = none := hd
  rfl

/-- Neither I nor D changes and B is not written, so the change stays whole. -/
theorem after_of_none {p : Unread} (hi : p.i = none) (hd : p.d = none) {k : Instr} (hb : writesB k = false)
    (s : State) : p.after k s = p := by
  obtain ⟨cycles, run, single, i, d, b⟩ := p
  obtain rfl : i = none := hi
  obtain rfl : d = none := hd
  simp [Unread.after, hb, unlessWritten]

/-- BRK in both modes: it completes, or it enters through the vector. -/
theorem execBrk_before (hi : p.i = none) (hd : p.d = none) :
    execBrk (p.before o s) = mapNext (p.after .brk s).apply (execBrk s) := by
  have hmode : (fetchOperands .brk (p.before o s)).params.brkMode = s.params.brkMode := rfl
  rw [after_of_none hi hd rfl, execBrk, execBrk, hmode, fetchOperands_params]
  cases s.params.brkMode with
  | terminal => exact completes_alike (o := o) rfl rfl
  | vectored =>
    refine completes_alike (o := o) rfl ?_
    rw [← enterBrk_before hi hd]
    rfl

theorem execUndefined_wdcNop (h : s.params.undefPolicy = .wdcNop) (form : UndefForm) :
    execUndefined form s = complete (.undefined form) 0 .cont (fetchOperands (.undefined form) s) := by
  simp only [execUndefined, h]

theorem execUndefined_fault (h : s.params.undefPolicy = .fault) (form : UndefForm) :
    execUndefined form s = .next { s with fault := some (.unsupportedInstruction form.opcode s.pc) } := by
  simp only [execUndefined, h, raiseFault]

/-- An instruction that completes and that the change spares does the same after it, and keeps what it does not write of
the change. -/
theorem exec_before (k : Instr) (hk : k.mnemonic ≠ .undefined ∨ s.params.undefPolicy = .wdcNop) (hp : p.Spares k) :
    exec k (p.before o s) = mapNext (p.after k s).apply (exec k s) := by
  cases k with
  | bcc | bcs | beq | bne | bmi | bpl | bvc | bvs | bra | bbr0 | bbr1 | bbr2 | bbr3 | bbr4 | bbr5 | bbr6 | bbr7 | bbs0
  | bbs1 | bbs2 | bbs3 | bbs4 | bbs5 | bbs6 | bbs7 =>
    exact branches_alike (p := p) (o := o) (u := fetchOperands _ s) rfl rfl
  | lda op | ldx op | ldy op | and op | ora op | eor op | cmp op | cpx op | cpy op =>
    refine completes_alike (p := p) (o := o) rfl ?_
    rw [← readSrc_before (p := p) (o := o) (s := fetchOperands _ s)]
    rfl
  | asl op | lsr op | rol op | ror op | inc op | dec op =>
    refine completes_alike (p := p) (o := o) rfl ?_
    rw [← writeRmw_before, ← readRmw_before (p := p) (o := o) (s := fetchOperands _ s)]
    rfl
  | tsb ea | trb ea =>
    refine completes_alike (p := p) (o := o) rfl ?_
    rw [← resolveEa_before (p := p) (o := o) (s := fetchOperands _ s)]
    rfl
  | bit op => cases op <;> exact completes_alike (p := p) (o := o) rfl rfl
  | jsr addr =>
    refine completes_alike (p := p) (o := o) rfl ?_
    rw [← setPc_before, ← pushWord_before]
    rfl
  | rts =>
    refine completes_alike (p := p) (o := o) rfl ?_
    rw [← setPc_before, afterPullWord, ← afterPull_before, ← afterPull_before]
    rfl
  | rti =>
    rw [show p.after .rti s = { p with i := none, d := none, b := none } from rfl]
    refine completes_alike (o := o) rfl ?_
    rw [← returnFromBrk_before]
    rfl
  | php =>
    obtain ⟨hi, hd⟩ := hp.pushed (.head _)
    rw [after_of_none hi hd rfl]
    refine completes_alike (o := o) rfl ?_
    rw [← push_before, ← pushedByte_flags hi hd]
    rfl
  | brk =>
    obtain ⟨hi, hd⟩ := hp.pushed (.tail _ (.head _))
    exact execBrk_before hi hd
  | adc op =>
    obtain ⟨cycles, run, single, i, d, b⟩ := p
    obtain rfl : d = none := hp.decimal (.head _)
    exact completes_alike (o := o) rfl rfl
  | sbc op =>
    obtain ⟨cycles, run, single, i, d, b⟩ := p
    obtain rfl : d = none := hp.decimal (.tail _ (.head _))
    exact completes_alike (o := o) rfl rfl
  | opRegdump =>
    obtain ⟨cycles, run, single, i, d, b⟩ := p
    obtain ⟨rfl, rfl, rfl⟩ : i = none ∧ d = none ∧ b = none := hp.reported rfl
    exact completes_alike (o := o) rfl rfl
  | undefined form =>
    have hnop : s.params.undefPolicy = .wdcNop := hk.resolve_left (fun h => h rfl)
    exact completes_alike (p := p) (o := o) (execUndefined_wdcNop hnop form)
      (execUndefined_wdcNop (s := p.before o s) hnop form)
  | cli | sei | cld | sed | plp => exact completes_alike (p := p.after _ s) (o := o) rfl rfl
  | _ => exact completes_alike (p := p) (o := o) rfl rfl

/-- An undefined value under `fault` keeps the change whole, the last outcome with it. -/
theorem exec_before_of_faults {k : Instr} (hk : k.mnemonic = .undefined) (hpol : s.params.undefPolicy = .fault) :
    (∃ r, exec k s = .next { s with fault := some r }) ∧
    exec k (p.before o s) = mapNext (p.before o) (exec k s) ∧ p.after k s = p := by
  cases k with
  | undefined form =>
    have h : exec (.undefined form) s = .next _ := execUndefined_fault hpol form
    rw [h]
    exact ⟨⟨_, rfl⟩, execUndefined_fault (s := p.before o s) hpol form, rfl⟩
  | _ => exact nomatch hk

end Alike

/-- An instruction answers one of the two ways. -/
theorem completes_or_faults (k : Instr) (s : State) :
    (k.mnemonic ≠ .undefined ∨ s.params.undefPolicy = .wdcNop) ∨
      k.mnemonic = .undefined ∧ s.params.undefPolicy = .fault := by
  cases h : s.params.undefPolicy with
  | wdcNop => exact .inl (.inr rfl)
  | fault => exact (em (k.mnemonic = .undefined)).elim (fun hk => .inr ⟨hk, rfl⟩) (fun hk => .inl (.inl hk))

theorem mapNext_congr {f g : State → State} {A : Answer} (h : ∀ t, A = .next t → f t = g t) :
    mapNext f A = mapNext g A := by
  cases A with
  | next t => exact congrArg _ (h t rfl)
  | fault | refused => rfl

/-- No instruction has a mode the resolver lacks (41 R119). -/
theorem unsupportedMode_eq_none (i : Instr) : unsupportedMode i = none := by
  have implemented (mode : AddrMode) : resolverImplements mode = true := by cases mode <;> rfl
  simp [unsupportedMode, List.find?_eq_none, implemented]

/-- A step of a CPU that has not faulted runs the fetched instruction. -/
theorem step_eq_exec {s : State} (h : s.fault = none) : step s = exec (fetchInstr s) s := by
  simp only [step, h, pcBeyondMemory_eq_false, unsupportedMode_eq_none, Bool.false_eq_true, if_false]

end Sys2Proof.Machine

namespace Sys2Proof.StateProofs

open Sys2Proof.Machine Sys2Proof.Spec

/-- Settles O51: a change of the cycle total, the controller state and the last outcome spares every instruction. -/
theorem cycleTotalAndControllerAreNeverRead : Obligations.CycleTotalAndControllerAreNeverRead := by
  unfold Obligations.CycleTotalAndControllerAreNeverRead
  intro s k r b o
  let p : Unread := { Unread.nothing with cycles := k, runState := some r, singleStep := some b }
  have hp (i : Instr) : p.Spares i := ⟨fun _ => ⟨rfl, rfl⟩, fun _ => rfl, fun _ => ⟨rfl, rfl, rfl⟩⟩
  have hafter (i : Instr) : p.after i s = p := by simp [Unread.after, p, Unread.nothing]
  change step (p.before o s) = _
  cases hs : s.fault with
  | some record =>
    have faulted : step s = .fault (.instanceFaulted record) := by simp only [step, hs]
    have faulted' : step (p.before o s) = .fault (.instanceFaulted record) := by
      simp only [step, show (p.before o s).fault = some record from hs]
    rw [faulted, faulted']
    rfl
  | none =>
    rw [step_eq_exec hs, step_eq_exec (s := p.before o s) hs, show fetchInstr (p.before o s) = fetchInstr s from rfl]
    rcases completes_or_faults (fetchInstr s) s with hi | ⟨hi, hpol⟩
    · rw [exec_before _ hi (hp _), hafter]
      refine mapNext_congr fun t ht => ?_
      rw [if_pos ((fault_of_exec hi ht).trans hs)]
      rfl
    · obtain ⟨⟨record, hexec⟩, hbefore, -⟩ := exec_before_of_faults (p := p) (o := o) hi hpol
      rw [hbefore, hexec]
      rfl

/-- A change before an instruction that it spares, with the last outcome as it was, leaves the change after it. -/
theorem exec_before_same_outcome {p : Unread} {i : Instr} (hp : p.Spares i) (s : State) {g : State → State}
    (hg : ∀ t, (p.after i s).apply t = g t) : exec i (p.before s.outcome s) = mapNext g (exec i s) := by
  rw [← funext hg]
  rcases completes_or_faults i s with hi | ⟨hi, hpol⟩
  · exact exec_before i hi hp
  · obtain ⟨⟨record, hexec⟩, hbefore, hafter⟩ := exec_before_of_faults (p := p) (o := s.outcome) hi hpol
    rw [hbefore, hexec, hafter]
    rfl

/-- Settles O52: a change of I, B or D alone is one that spares the instructions named. -/
theorem whatTheFlagsIBAndDSteer : Obligations.WhatTheFlagsIBAndDSteer := by
  unfold Obligations.WhatTheFlagsIBAndDSteer
  intro i s v hlog
  refine ⟨fun hpush => ?_, ?_, fun huse => ?_⟩
  · have hp : Unread.Spares { Unread.nothing with i := some v } i :=
      ⟨fun h => absurd h hpush, fun _ => rfl, fun h => absurd h hlog⟩
    refine exec_before_same_outcome hp s fun t => ?_
    cases hw : writesI i s <;> simp [Unread.after, hw, unlessWritten, Unread.nothing, Unread.apply, Unread.flags]
  · have hp : Unread.Spares { Unread.nothing with b := some v } i :=
      ⟨fun _ => ⟨rfl, rfl⟩, fun _ => rfl, fun h => absurd h hlog⟩
    refine exec_before_same_outcome hp s fun t => ?_
    cases hw : writesB i <;> simp [Unread.after, hw, unlessWritten, Unread.nothing, Unread.apply, Unread.flags]
  · have hp : Unread.Spares { Unread.nothing with d := some v } i :=
      ⟨fun h => absurd (.tail _ (.tail _ h)) huse, fun h => absurd (List.mem_append_left [Mnemonic.php, .brk] h) huse,
        fun h => absurd h hlog⟩
    refine exec_before_same_outcome hp s fun t => ?_
    cases hw : writesD i s <;> simp [Unread.after, hw, unlessWritten, Unread.nothing, Unread.apply, Unread.flags]

end Sys2Proof.StateProofs
end

section
/-! PROOFS. Memory and the stack (20_memory.md R44, R46, R50): one write, words read from two bytes, pushes and pulls. -/

namespace Sys2Proof.Machine

open Sys2Proof.Spec

/-! Words and addresses, on numbers. -/

/-- A word is its low byte and 256 times its high byte (00 R7). -/
theorem joinBytes_toNat (lo hi : Byte) : (joinBytes lo hi).toNat = lo.toNat + 256 * hi.toNat := by
  have hlo := lo.isLt
  have hhi := hi.isLt
  have hshift : (hi.toNat <<< 8) % 2 ^ 16 = hi.toNat <<< 8 := by
    rw [Nat.shiftLeft_eq]
    omega
  simp only [joinBytes, BitVec.toNat_or, BitVec.toNat_shiftLeft, BitVec.toNat_setWidth_of_le (show 8 ≤ 16 by decide),
    hshift]
  rw [Nat.or_comm, ← Nat.shiftLeft_add_eq_or_of_lt hlo, Nat.shiftLeft_eq]
  omega

theorem zext16_toNat (b : Byte) : (zext16 b).toNat = b.toNat :=
  BitVec.toNat_setWidth_of_le (by decide)

theorem loByte_eq_ofNat (w : Word) : loByte w = BitVec.ofNat 8 w.toNat := rfl

theorem hiByte_eq_ofNat (w : Word) : hiByte w = BitVec.ofNat 8 (w.toNat / 256) := by
  apply BitVec.eq_of_toNat_eq
  simp [hiByte, Nat.shiftRight_eq_div_pow]

/-- The stack byte `k` above S, as an address and as a number (20 R50). -/
theorem stackAddr_toNat_add (s : State) (k : Nat) :
    (stackAddr (s.sp + BitVec.ofNat 8 k)).toNat = stackAt s k := by
  simp [stackAddr_toNat, stackAt]

theorem byte_sub_one (b : Byte) : b - 1 = b + BitVec.ofNat 8 255 := by bv_omega

theorem stackAddr_sub_one_ne (sp : Byte) : stackAddr (sp - 1) ≠ stackAddr sp := by
  intro h
  have := stackAddr_inj h
  bv_omega

/-! The stack, a push and a pull at a time. -/

theorem afterPullWord_pushWord_sp (w : Word) (s : State) : (afterPullWord (pushWord w s)).sp = s.sp := by
  simp [afterPullWord, pushWord]

/-- A 16-bit push leaves the low byte at the address below the old stack address. -/
theorem memRead_pushWord_low {s : State} (h : s.mem.wf = true) (w : Word) :
    memRead (pushWord w s) (stackAddr (s.sp - 1)) = loByte w :=
  memRead_memWrite_same (push_wf h (hiByte w)) ..

/-- A 16-bit push leaves the high byte at the old stack address. -/
theorem memRead_pushWord_high {s : State} (h : s.mem.wf = true) (w : Word) :
    memRead (pushWord w s) (stackAddr s.sp) = hiByte w :=
  calc memRead (pushWord w s) (stackAddr s.sp)
    _ = memRead (push (hiByte w) s) (stackAddr s.sp) :=
      memRead_memWrite_other (push (hiByte w) s) (loByte w) (stackAddr_sub_one_ne s.sp).symm
    _ = hiByte w := memRead_memWrite_same h ..

/-- A 16-bit pull after a 16-bit push gives the word back. -/
theorem pulledWord_pushWord {s : State} (h : s.mem.wf = true) (w : Word) : pulledWord (pushWord w s) = w := by
  have hlow : pulled (pushWord w s) = loByte w := pulled_push (push_wf h _) _
  have hsp : (afterPull (pushWord w s)).sp + 1 = s.sp := by simp [pushWord]
  have hhigh : pulled (afterPull (pushWord w s)) = hiByte w := by
    rw [pulled, hsp, memRead_afterPull, memRead_pushWord_high h]
  rw [pulledWord, hlow, hhigh, joinBytes_lo_hi]

end Sys2Proof.Machine

namespace Sys2Proof.MemoryProofs

open Sys2Proof.Machine Sys2Proof.Spec

/-- Settles O15: the laws of `MemWrite`; its definition changes the field `mem` alone. -/
theorem memoryWriteChangesOneByte : Obligations.MemoryWriteChangesOneByte := by
  unfold Obligations.MemoryWriteChangesOneByte
  intro s k p v h
  exact ⟨memRead_memWrite_same h k v, memRead_memWrite_other s v, memWrite_wf h k v, rfl⟩

/-- Settles O16: each word is joined from two bytes, and the second address wraps as its width does. -/
theorem sixteenBitPointerReads : Obligations.SixteenBitPointerReads := by
  unfold Obligations.SixteenBitPointerReads
  intro s
  refine ⟨fun p => ?_, fun z => ?_⟩
  · rw [memRead16, joinBytes_toNat, memRead, memRead, BitVec.toNat_add]
    rfl
  · rw [memReadZp16, joinBytes_toNat, memRead, memRead, zext16_toNat, zext16_toNat, BitVec.toNat_add]
    rfl

/-- Settles O17: one push and one pull by their definitions on numbers, then the two 16-bit round trips. -/
theorem stackPushAndPull : Obligations.StackPushAndPull := by
  unfold Obligations.StackPushAndPull
  intro s v w h
  have haddr : (stackAddr s.sp).toNat = stackAt s 0 := by simpa using stackAddr_toNat_add s 0
  have hbelow : (stackAddr (s.sp - 1)).toNat = stackAt s 255 := byte_sub_one s.sp ▸ stackAddr_toNat_add s 255
  have habove : (stackAddr (s.sp + 1)).toNat = stackAt s 1 := stackAddr_toNat_add s 1
  have hdown : s.sp - 1 = BitVec.ofNat 8 (s.sp.toNat + 255) := by bv_omega
  have hup : s.sp + 1 = BitVec.ofNat 8 (s.sp.toNat + 1) := by bv_omega
  refine ⟨?push, ?pulled, ?afterPull, pulled_push h v, afterPull_push_sp v s, pulledWord_pushWord h w,
    afterPullWord_pushWord_sp w s, ?high, ?low⟩
  case push => rw [push_eq, haddr, hdown]
  case pulled => rw [pulled, memRead, habove]
  case afterPull => rw [afterPull, hup, setSp]
  case high => rw [← haddr, ← hiByte_eq_ofNat]; exact memRead_pushWord_high h w
  case low => rw [← hbelow, ← loByte_eq_ofNat]; exact memRead_pushWord_low h w

end Sys2Proof.MemoryProofs
end

section
/-! PROOFS. The bytes any instruction stores to (20_memory.md R41, R44, R48), said once: an instruction writes one
byte at each of its store addresses, in their order. The memory frame and the canonical form are read off this. -/

namespace Sys2Proof.Machine

open Sys2Proof.Spec

/-- Memory `m'` is `m` after one write at each of the addresses, in their order. -/
inductive Stored : List Word → Memory → Memory → Prop
  | none {m} : Stored [] m m
  | write {k : Word} {ks m v m'} (rest : Stored ks (m.write k.toNat v) m') : Stored (k :: ks) m m'

theorem Stored.wf {ks : List Word} {m m' : Memory} (h : Stored ks m m') (hm : m.wf = true) : m'.wf = true := by
  induction h with
  | none => exact hm
  | @write k _ _ v _ _ ih => exact ih (Memory.write_wf hm k.isLt)

theorem Stored.read_other {ks : List Word} {m m' : Memory} (h : Stored ks m m') {p : Word} (hp : p ∉ ks) :
    m'.read p.toNat = m.read p.toNat := by
  induction h with
  | none => rfl
  | @write k _ _ v _ _ ih =>
    obtain ⟨hk, hks⟩ := List.ne_and_not_mem_of_not_mem_cons hp
    rw [ih hks, Memory.read_write_other _ v (fun h => hk (BitVec.eq_of_toNat_eq h))]

/-- A branch stores nothing. -/
theorem completeBranch_mem {i : Instr} {taken : Bool} {target : Word} {s t : State}
    (h : completeBranch i taken target s = .next t) : t.mem = s.mem := by
  cases taken <;> obtain rfl := complete_next h
  all_goals rfl

/-- A result written back to memory goes to the address that the resolver gave before. -/
theorem writeRmw_stored {s u : State} (hx : u.x = s.x) (hy : u.y = s.y) (hm : u.mem = s.mem) (ea : Ea) (v : Byte) :
    Stored [(resolveEa ea s).addr] s.mem (writeRmw (.mem ea) v u).mem := by
  rw [writeRmw_mem, resolveEa_congr hx hy hm, hm]
  exact .write .none

/-- Entry through the vector writes the three bytes below the old stack address. -/
theorem enterBrk_stored (ret : Word) (s : State) :
    Stored [stackAddr s.sp, stackAddr (s.sp - 1), stackAddr (s.sp - 2)] s.mem (enterBrk ret s).mem := by
  have hsp : s.sp - 2 = s.sp - 1 - 1 := by bv_omega
  simp only [enterBrk_eq, hsp, pushWord, push_mem, push_sp]
  exact .write (.write (.write .none))

theorem storeAddrs_brk (s : State) :
    storeAddrs .brk s =
      if s.params.brkMode = .vectored then [stackAddr s.sp, stackAddr (s.sp - 1), stackAddr (s.sp - 2)] else [] := by
  change (match s.params.brkMode with | .terminal => [] | .vectored => _) = _
  cases s.params.brkMode <;> rfl

/-- BRK in both modes: it stores nothing, or it enters through the vector. -/
theorem execBrk_stored {s t : State} (h : execBrk s = .next t) : Stored (storeAddrs .brk s) s.mem t.mem := by
  rw [execBrk, fetchOperands_params] at h
  rw [storeAddrs_brk]
  cases hb : s.params.brkMode with
  | terminal =>
    simp only [hb] at h
    obtain rfl := complete_next h
    exact .none
  | vectored =>
    simp only [hb] at h
    obtain rfl := complete_next h
    have hstored := enterBrk_stored (s.pc + 2) (fetchOperands .brk s)
    rw [fetchOperands_sp, fetchOperands_mem] at hstored
    rw [if_pos rfl]
    exact hstored

/-- A return from BRK stores nothing. -/
theorem execRti_mem {s t : State} (h : execRti s = .next t) : t.mem = s.mem := by
  rw [execRti, returnFromBrk_eq] at h
  obtain rfl := complete_next h
  rfl

/-- An undefined value stores nothing, under both policies. -/
theorem execUndefined_mem {form : UndefForm} {s t : State} (h : execUndefined form s = .next t) : t.mem = s.mem := by
  cases hpol : s.params.undefPolicy with
  | fault =>
    rw [execUndefined_fault hpol] at h
    cases h
    rfl
  | wdcNop =>
    rw [execUndefined_wdcNop hpol] at h
    obtain rfl := complete_next h
    rfl

/-- Every instruction writes one byte at each of its store addresses and no other. -/
theorem exec_stored {i : Instr} {s t : State} (h : exec i s = .next t) : Stored (storeAddrs i s) s.mem t.mem := by
  cases i with
  | sta | stx | sty | stz | tsb | trb | rmb0 | rmb1 | rmb2 | rmb3 | rmb4 | rmb5 | rmb6 | rmb7 | smb0 | smb1 | smb2
  | smb3 | smb4 | smb5 | smb6 | smb7 | pha | phx | phy | php =>
    obtain rfl := complete_next h
    exact .write .none
  | inc op | dec op | asl op | lsr op | rol op | ror op =>
    obtain rfl := complete_next h
    cases op with
    | acc => exact .none
    | mem ea => exact writeRmw_stored rfl rfl rfl ea _
  | jsr addr =>
    obtain rfl := complete_next h
    exact .write (.write .none)
  | brk => exact execBrk_stored h
  | rti =>
    rw [execRti_mem h]
    exact .none
  | bcc | bcs | beq | bne | bmi | bpl | bvc | bvs | bra | bbr0 | bbr1 | bbr2 | bbr3 | bbr4 | bbr5 | bbr6 | bbr7 | bbs0
  | bbs1 | bbs2 | bbs3 | bbs4 | bbs5 | bbs6 | bbs7 =>
    rw [completeBranch_mem h]
    exact .none
  | undefined form =>
    rw [execUndefined_mem h]
    exact .none
  | _ =>
    obtain rfl := complete_next h
    exact .none

end Sys2Proof.Machine

namespace Sys2Proof.MemoryProofs

open Sys2Proof.Machine

/-- Settles O50: a byte outside the store addresses is left by every write. -/
theorem memoryChangesOnlyWhereInstructionsStore : Obligations.MemoryChangesOnlyWhereInstructionsStore := by
  unfold Obligations.MemoryChangesOnlyWhereInstructionsStore
  intro i s t p h hp
  exact (exec_stored h).read_other hp

end Sys2Proof.MemoryProofs
end

section
/-! PROOFS. The invariant that a step keeps (20_memory.md R40, R44; 60_exceptions.md R290, R292). Memory and
parameters are frame facts; for the fault, an undefined value is decoded only from a byte that explains it. -/

namespace Sys2Proof.Machine

/-! The instruction at an undefined opcode value (30 R65, R72). -/

/-- A byte is its row and its column of the opcode map. -/
theorem byte_cases_by_nibble {P : Byte → Prop} (h : ∀ row col : Fin 16, P (BitVec.ofNat 8 (16 * row + col)))
    (op : Byte) : P op := by
  have hop : op = BitVec.ofNat 8 (16 * (op.toNat / 16) + op.toNat % 16) := by
    rw [Nat.div_add_mod, BitVec.ofNat_toNat, BitVec.setWidth_eq]
  exact hop ▸ h ⟨op.toNat / 16, by omega⟩ ⟨op.toNat % 16, by omega⟩

/-- The map has at each byte an instruction whose own opcode list gives that byte, whatever the operand bytes. -/
theorem tableOpcode_decodeMap (op b1 b2 : Byte) : (decodeMap op b1 b2).tableOpcode = some op := by
  induction op using byte_cases_by_nibble with
  | h row col => fin_cases row <;> fin_cases col <;> rfl

/-- The undefined opcode values are the bytes that 30 R65 lists. -/
theorem mnemonic_decodeMap_eq_undefined_iff (op b1 b2 : Byte) :
    (decodeMap op b1 b2).mnemonic = .undefined ↔ op ∈ undefinedOpcodes := by
  rw [← decide_eq_decide]
  induction op using byte_cases_by_nibble with
  | h row col => fin_cases row <;> fin_cases col <;> rfl

/-- The map has an undefined value's form at that value alone. -/
theorem decodeMap_undefined {op b1 b2 : Byte} {form : UndefForm} (h : decodeMap op b1 b2 = .undefined form) :
    form.opcode = op ∧ op ∈ undefinedOpcodes := by
  have hop := tableOpcode_decodeMap op b1 b2
  have hmem := mnemonic_decodeMap_eq_undefined_iff op b1 b2
  rw [h] at hop hmem
  exact ⟨Option.some.inj hop, hmem.mp rfl⟩

/-- A byte carries a debug opcode exactly when `DEBUG_OPCODES` assigns it. -/
theorem debugInstr_eq_none {dbg : DebugOpcodes} {op : Byte} : debugInstr dbg op = none ↔ op ∉ dbg.values := by
  unfold debugInstr
  split_ifs <;> simp [DebugOpcodes.values, *]

theorem debugInstr_ne_undefined (dbg : DebugOpcodes) (op : Byte) (form : UndefForm) :
    debugInstr dbg op ≠ some (.undefined form) := by
  unfold debugInstr
  split_ifs <;> exact fun h => nomatch h

/-- An undefined value is decoded at its own byte, which no debug opcode takes. -/
theorem decodeBytes_undefined {dbg : DebugOpcodes} {op b1 b2 : Byte} {form : UndefForm}
    (h : decodeBytes dbg op b1 b2 = .undefined form) :
    form.opcode = op ∧ op ∈ undefinedOpcodes ∧ op ∉ dbg.values := by
  unfold decodeBytes at h
  split at h
  case h_1 form' hmap =>
    cases hdbg : debugInstr dbg op with
    | none =>
      simp only [hdbg, Option.getD_none] at h
      obtain ⟨hop, hmem⟩ := decodeMap_undefined (hmap.trans h)
      exact ⟨hop, hmem, debugInstr_eq_none.mp hdbg⟩
    | some i =>
      simp only [hdbg, Option.getD_some] at h
      exact absurd (hdbg.trans (congrArg some h)) (debugInstr_ne_undefined dbg op form)
  case h_2 hne => exact absurd h (hne form)

/-! The invariant. -/

/-- A step that answers a next state is the fetched instruction's, on a CPU that has not faulted. -/
theorem step_next {s t : State} (h : step s = .next t) : s.fault = none ∧ exec (fetchInstr s) s = .next t := by
  cases hs : s.fault with
  | none => exact ⟨rfl, step_eq_exec hs ▸ h⟩
  | some record => simp [step, hs] at h

theorem params_of_exec {i : Instr} {s t : State} (h : exec i s = .next t) : t.params = s.params := by
  cases exec_effect h <;> rfl

theorem faultExplained_of_none {s : State} (h : s.fault = none) : s.faultExplained = true := by
  simp only [State.faultExplained, h]

/-- The fault that a fetched undefined value records is the one that the byte at PC explains (60 R290, R292). -/
theorem faultExplained_of_fetched_undefined {s : State} {form : UndefForm} (hfetch : fetchInstr s = .undefined form)
    (hpol : s.params.undefPolicy = .fault) :
    State.faultExplained { s with fault := some (.unsupportedInstruction form.opcode s.pc) } = true := by
  obtain ⟨hop, hmem, hdbg⟩ := decodeBytes_undefined hfetch
  simp only [State.faultExplained, FaultRecord.explainedBy, hop, hmem, hdbg, hpol, decide_true, not_false_eq_true,
    Bool.true_and, Bool.and_true, decide_eq_true_eq]
  rfl

/-- The fetched instruction leaves no fault unexplained. -/
theorem exec_fetchInstr_faultExplained {s t : State} (hs : s.fault = none) (h : exec (fetchInstr s) s = .next t) :
    t.faultExplained = true := by
  rcases completes_or_faults (fetchInstr s) s with hi | ⟨hi, hpol⟩
  · exact faultExplained_of_none ((fault_of_exec hi h).trans hs)
  · cases hfetch : fetchInstr s with
    | undefined form =>
      rw [hfetch] at h
      cases (execUndefined_fault hpol form).symm.trans h
      exact faultExplained_of_fetched_undefined hfetch hpol
    | _ => exact nomatch hfetch ▸ hi

end Sys2Proof.Machine

namespace Sys2Proof.MemoryProofs

open Sys2Proof.Machine

/-- Settles O11: memory takes writes at addresses of the space, the parameters stay, and a fault comes from the byte at
PC. -/
theorem stepKeepsInvariant : Obligations.StepKeepsInvariant := by
  unfold Obligations.StepKeepsInvariant
  intro s t hinv h
  obtain ⟨hs, hexec⟩ := step_next h
  exact {
    mem := (exec_stored hexec).wf hinv.mem
    params := params_of_exec hexec ▸ hinv.params
    fault := exec_fetchInstr_faultExplained hs hexec }

end Sys2Proof.MemoryProofs
end

section
/-! PROOFS. The opcode map and the opcode lists, compared (30_encoding.md R61 to R65): each row of the map is a
well-formed instruction with the operand bytes it was read from, and each instruction is found at its own opcode. -/

namespace Sys2Proof.Machine

/-! Operand bytes. -/

/-- The operand bytes are as many as the addressing modes consume (30 R61). -/
theorem bytes_length (i : Instr) : i.bytes.length = i.operandBytes := by
  cases i with
  | lda op | ldx op | ldy op | adc op | sbc op | and op | ora op | eor op | cmp op | cpx op | cpy op | bit op =>
    exact Laws.opBytes_length_src op
  | inc op | dec op | asl op | lsr op | rol op | ror op => exact Laws.opBytes_length_rmw op
  | sta ea | stx ea | sty ea | stz ea | tsb ea | trb ea => exact Laws.opBytes_length_ea ea
  | jmp op => exact Laws.opBytes_length_jmp op
  | undefined form => exact Laws.opBytes_length_undef form
  | _ => rfl

/-- The bytes an instruction of the map was read from, word operands split again into bytes. -/
theorem bytes_decodeMap_by_mode (op b1 b2 : Byte) :
    (decodeMap op b1 b2).bytes =
      if (decodeMap op b1 b2).mode.operandBytes = 2 then [loByte (joinBytes b1 b2), hiByte (joinBytes b1 b2)]
      else [b1, b2].take (decodeMap op b1 b2).operandBytes := by
  induction op using byte_cases_by_nibble with
  | h row col => fin_cases row <;> fin_cases col <;> rfl

/-- An instruction of the map has the operand bytes it was read from. -/
theorem bytes_decodeMap (op b1 b2 : Byte) :
    (decodeMap op b1 b2).bytes = [b1, b2].take (decodeMap op b1 b2).operandBytes := by
  have hbytes := bytes_decodeMap_by_mode op b1 b2
  split at hbytes
  · rw [loByte_joinBytes, hiByte_joinBytes] at hbytes
    rw [← bytes_length, hbytes]
    rfl
  · exact hbytes

/-- Every row of the map is a well-formed instruction when no debug opcode is assigned (41 R120). -/
theorem wellFormed_decodeMap (op b1 b2 : Byte) : (decodeMap op b1 b2).wellFormed .absent = true := by
  induction op using byte_cases_by_nibble with
  | h row col => fin_cases row <;> fin_cases col <;> rfl

/-! From the opcode lists to the map. -/

/-- The map has each undefined value's form at that value (30 R65). -/
theorem decodeMap_undefForm {form : UndefForm} (h : form.wf = true) (rest : List Byte) :
    decodeMap form.opcode ((form.bytes ++ rest).getD 0 0) ((form.bytes ++ rest).getD 1 0) = .undefined form := by
  cases form with
  | one op | imm op b | zp op b | zpX op b =>
    have hop := of_decide_eq_true h
    simp only [UndefForm.opcode]
    fin_cases hop <;> rfl
  | abs op w =>
    have hop := of_decide_eq_true h
    simp only [UndefForm.opcode]
    conv_rhs => rw [← joinBytes_lo_hi w]
    fin_cases hop <;> rfl

/-- The map has each instruction at the opcode that the instruction's own rule lists, and reads its operand bytes
back. A mode that the rule does not list has no opcode, so its case is empty. -/
theorem decodeMap_tableOpcode {i : Instr} {opcode : Byte} (hop : i.tableOpcode = some opcode)
    (hform : ∀ form, i = .undefined form → form.wf = true) (rest : List Byte) :
    decodeMap opcode ((i.bytes ++ rest).getD 0 0) ((i.bytes ++ rest).getD 1 0) = i := by
  cases i with
  | lda op | ldx op | ldy op | adc op | sbc op | and op | ora op | eor op | cmp op | cpx op | cpy op | bit op =>
    cases op with
    | imm b => cases hop; rfl
    | mem ea =>
      cases ea with
      | abs w | absX w | absY w => cases hop <;> (conv_rhs => rw [← joinBytes_lo_hi w]) <;> rfl
      | _ => cases hop <;> rfl
  | inc op | dec op | asl op | lsr op | rol op | ror op =>
    cases op with
    | acc => cases hop; rfl
    | mem ea =>
      cases ea with
      | abs w | absX w | absY w => cases hop <;> (conv_rhs => rw [← joinBytes_lo_hi w]) <;> rfl
      | _ => cases hop <;> rfl
  | sta ea | stx ea | sty ea | stz ea | tsb ea | trb ea =>
    cases ea with
    | abs w | absX w | absY w => cases hop <;> (conv_rhs => rw [← joinBytes_lo_hi w]) <;> rfl
    | _ => cases hop <;> rfl
  | jmp op =>
    cases op with
    | abs w | ind w | indX w =>
      cases hop
      conv_rhs => rw [← joinBytes_lo_hi w]
      rfl
  | jsr w =>
    cases hop
    conv_rhs => rw [← joinBytes_lo_hi w]
    rfl
  | undefined form => cases hop; exact decodeMap_undefForm (hform form rfl) rest
  | opBreakpoint | opRegdump | opMemdump => cases hop
  | _ => cases hop; rfl

end Sys2Proof.Machine
end

section
/-! PROOFS. The debug opcodes over the map, and decoding as the inverse of encoding (30_encoding.md R61, R65, R72). -/

namespace Sys2Proof.Machine

theorem mnemonic_eq_undefined_iff {i : Instr} : i.mnemonic = .undefined ↔ ∃ form, i = .undefined form := by
  cases i with
  | undefined form => exact ⟨fun _ => ⟨form, rfl⟩, fun _ => rfl⟩
  | _ => exact ⟨(nomatch ·), fun ⟨_, h⟩ => nomatch h⟩

/-- A debug opcode takes an undefined value out of the map and touches no defined one (30 R65, R72). -/
theorem decodeBytes_eq (dbg : DebugOpcodes) (op b1 b2 : Byte) :
    decodeBytes dbg op b1 b2 =
      if op ∈ undefinedOpcodes then (debugInstr dbg op).getD (decodeMap op b1 b2) else decodeMap op b1 b2 := by
  have hmem := mnemonic_decodeMap_eq_undefined_iff op b1 b2
  unfold decodeBytes
  split
  case h_1 form hmap => rw [if_pos (hmem.mp (hmap ▸ rfl)), hmap]
  case h_2 hne =>
    rw [if_neg fun hop => ?_]
    obtain ⟨form, hform⟩ := mnemonic_eq_undefined_iff.mp (hmem.mpr hop)
    exact hne form hform

/-- The three ways to have a debug opcode (30 R72). -/
theorem debugInstr_cases {dbg : DebugOpcodes} {op : Byte} {i : Instr} (h : debugInstr dbg op = some i) :
    (i = .opBreakpoint ∧ dbg.breakpoint = some op) ∨ (i = .opRegdump ∧ dbg.regdump = some op) ∨
      (i = .opMemdump ∧ dbg.memdump = some op) := by
  unfold debugInstr at h
  split_ifs at h <;> cases h <;> simp [*]

/-- The opcode of an instruction that a rule lists does not depend on the debug opcodes. -/
theorem opcode_of_tableOpcode {i : Instr} {op : Byte} (h : i.tableOpcode = some op) (dbg : DebugOpcodes) :
    i.opcode dbg = some op := by
  cases i with
  | opBreakpoint | opRegdump | opMemdump => cases h
  | _ => exact h

/-- An instruction with an opcode but none in the opcode lists is a debug opcode, found at that value when the values
are distinct. -/
theorem debugInstr_of_opcode {dbg : DebugOpcodes} (hdbg : dbg.wf = true) {i : Instr} {op : Byte}
    (hop : i.opcode dbg = some op) (htable : i.tableOpcode = none) : debugInstr dbg op = some i := by
  have hnodup : dbg.values.Nodup := of_decide_eq_true (Bool.and_eq_true_iff.mp hdbg).2
  simp only [DebugOpcodes.values, List.nodup_append', List.disjoint_append_left] at hnodup
  obtain ⟨⟨-, -, hbr⟩, -, hbm, hrm⟩ := hnodup
  unfold Instr.opcode at hop
  split at hop
  · simp [debugInstr, hop]
  · have hb : dbg.breakpoint ≠ some op := fun hb => hbr (Option.mem_toList.mpr hb) (Option.mem_toList.mpr hop)
    simp [debugInstr, hb, hop]
  · have hb : dbg.breakpoint ≠ some op := fun hb => hbm (Option.mem_toList.mpr hb) (Option.mem_toList.mpr hop)
    have hr : dbg.regdump ≠ some op := fun hr => hrm (Option.mem_toList.mpr hr) (Option.mem_toList.mpr hop)
    simp [debugInstr, hb, hr, hop]
  · cases htable.symm.trans hop

/-- A legal debug opcode has an undefined value (30 R72). -/
theorem mem_undefinedOpcodes_of_debugInstr {dbg : DebugOpcodes} (hdbg : dbg.wf = true) {i : Instr} {op : Byte}
    (h : debugInstr dbg op = some i) : op ∈ undefinedOpcodes := by
  have hvalues : ∀ b ∈ dbg.values, b ∈ undefinedOpcodes := of_decide_eq_true (Bool.and_eq_true_iff.mp hdbg).1
  refine hvalues op (by_contra fun hop => ?_)
  cases h.symm.trans (debugInstr_eq_none.mpr hop)

theorem wellFormed_undefined {dbg : DebugOpcodes} {form : UndefForm} :
    (Instr.undefined form).wellFormed dbg = true ↔ form.wf = true ∧ form.opcode ∉ dbg.values := by
  cases form <;> simp [Instr.wellFormed, Instr.mode, UndefForm.mode, Instr.mnemonic, Mnemonic.allowedModes]

/-- A well-formed instruction has an opcode. -/
theorem exists_opcode {dbg : DebugOpcodes} {i : Instr} (h : i.wellFormed dbg = true) :
    ∃ op, i.opcode dbg = some op := by
  have hmode := Laws.mode_mem_of_wellFormed h
  cases i with
  | lda _ | ldx _ | ldy _ | sta _ | stx _ | sty _ | stz _ | adc _ | sbc _ | and _ | ora _ | eor _ | cmp _ | cpx _
  | cpy _ | bit _ | tsb _ | trb _ | inc _ | dec _ | asl _ | lsr _ | rol _ | ror _ | jmp _ =>
    exact Laws.opcodeFor_isSome (Laws.mem_of_all hmode rfl)
  | opBreakpoint | opRegdump | opMemdump => exact Option.isSome_iff_exists.mp (Bool.and_eq_true_iff.mp h).2
  | _ => exact ⟨_, rfl⟩

/-- Decoding at an instruction's opcode, with its operand bytes behind it, gives the instruction. -/
theorem decodeBytes_of_opcode {dbg : DebugOpcodes} (hdbg : dbg.wf = true) {i : Instr} (hi : i.wellFormed dbg = true)
    {op : Byte} (hop : i.opcode dbg = some op) (rest : List Byte) :
    decodeBytes dbg op ((i.bytes ++ rest).getD 0 0) ((i.bytes ++ rest).getD 1 0) = i := by
  rw [decodeBytes_eq]
  cases htable : i.tableOpcode with
  | none =>
    have hdebug := debugInstr_of_opcode hdbg hop htable
    rw [if_pos (mem_undefinedOpcodes_of_debugInstr hdbg hdebug), hdebug, Option.getD_some]
  | some op' =>
    obtain rfl : op' = op := Option.some.inj ((opcode_of_tableOpcode htable dbg).symm.trans hop)
    have hmap := decodeMap_tableOpcode htable (fun form hform => (wellFormed_undefined.mp (hform ▸ hi)).1) rest
    rw [hmap]
    split
    case isFalse => rfl
    case isTrue hundef =>
      have hi' : i.mnemonic = .undefined := hmap ▸ (mnemonic_decodeMap_eq_undefined_iff ..).mpr hundef
      obtain ⟨form, rfl⟩ := mnemonic_eq_undefined_iff.mp hi'
      obtain rfl : form.opcode = op' := Option.some.inj htable
      rw [debugInstr_eq_none.mpr (wellFormed_undefined.mp hi).2, Option.getD_none]

theorem encode_of_opcode {dbg : DebugOpcodes} {i : Instr} {op : Byte} (h : i.opcode dbg = some op) :
    encode dbg i = op :: i.bytes := by
  simp only [encode, h]

/-- Decoding reads an opcode, the operand bytes of its instruction, and leaves the rest. -/
theorem decode_cons (dbg : DebugOpcodes) (op : Byte) (tail : List Byte) {i : Instr}
    (h : decodeBytes dbg op (tail.getD 0 0) (tail.getD 1 0) = i) :
    decode dbg (op :: tail) =
      if i.operandBytes ≤ tail.length then .ok (i, tail.drop i.operandBytes) else .error .missingOperand := by
  subst h
  rfl

/-- What decodes starts with an opcode and holds the operand bytes of its instruction. -/
theorem decode_ok {dbg : DebugOpcodes} {bytes rest : List Byte} {i : Instr} (h : decode dbg bytes = .ok (i, rest)) :
    ∃ op tail, bytes = op :: tail ∧ decodeBytes dbg op (tail.getD 0 0) (tail.getD 1 0) = i ∧
      i.operandBytes ≤ tail.length ∧ rest = tail.drop i.operandBytes := by
  cases bytes with
  | nil => cases h
  | cons op tail =>
    rw [decode_cons dbg op tail rfl] at h
    split at h
    case isTrue hlen => cases h; exact ⟨op, tail, rfl, rfl, hlen, rfl⟩
    case isFalse => cases h

/-- What a decoded instruction is: well-formed, with the opcode and the operand bytes it was read from. -/
structure ReadFrom (dbg : DebugOpcodes) (op b1 b2 : Byte) (i : Instr) : Prop where
  wellFormed : i.wellFormed dbg = true
  opcode : i.opcode dbg = some op
  bytes : i.bytes = [b1, b2].take i.operandBytes

theorem readFrom_of_debugInstr {dbg : DebugOpcodes} {op : Byte} {i : Instr} (h : debugInstr dbg op = some i)
    (b1 b2 : Byte) : ReadFrom dbg op b1 b2 i := by
  rcases debugInstr_cases h with ⟨rfl, hop⟩ | ⟨rfl, hop⟩ | ⟨rfl, hop⟩ <;>
    exact { wellFormed := Option.isSome_iff_exists.mpr ⟨op, hop⟩, opcode := hop, bytes := rfl }

/-- The debug opcodes matter to an undefined value alone, which must be free of them. -/
theorem wellFormed_of_absent {dbg : DebugOpcodes} {i : Instr} (h : i.wellFormed .absent = true)
    (hfree : ∀ form, i = .undefined form → form.opcode ∉ dbg.values) : i.wellFormed dbg = true := by
  cases i with
  | undefined form => exact wellFormed_undefined.mpr ⟨(wellFormed_undefined.mp h).1, hfree form rfl⟩
  | opBreakpoint | opRegdump | opMemdump => cases h
  | _ => exact h

theorem readFrom_decodeMap {dbg : DebugOpcodes} {op : Byte} (b1 b2 : Byte)
    (hfree : op ∈ undefinedOpcodes → op ∉ dbg.values) : ReadFrom dbg op b1 b2 (decodeMap op b1 b2) where
  wellFormed := by
    refine wellFormed_of_absent (wellFormed_decodeMap op b1 b2) fun form hform => ?_
    obtain ⟨rfl, hop⟩ := decodeMap_undefined hform
    exact hfree hop
  opcode := opcode_of_tableOpcode (tableOpcode_decodeMap op b1 b2) dbg
  bytes := bytes_decodeMap op b1 b2

/-- Whatever byte is decoded, the instruction is one read from it. -/
theorem readFrom_decodeBytes (dbg : DebugOpcodes) (op b1 b2 : Byte) :
    ReadFrom dbg op b1 b2 (decodeBytes dbg op b1 b2) := by
  rw [decodeBytes_eq]
  split
  case isFalse hdef => exact readFrom_decodeMap b1 b2 fun hop => absurd hop hdef
  case isTrue =>
    cases hdebug : debugInstr dbg op with
    | none => exact readFrom_decodeMap b1 b2 fun _ => debugInstr_eq_none.mp hdebug
    | some i => exact readFrom_of_debugInstr hdebug b1 b2

/-- At most two operand bytes are read. -/
theorem ReadFrom.operandBytes_le {dbg : DebugOpcodes} {op b1 b2 : Byte} {i : Instr} (h : ReadFrom dbg op b1 b2 i) :
    i.operandBytes ≤ 2 := by
  rw [← bytes_length, h.bytes]
  exact List.length_take_le' ..

/-- The bytes behind an opcode, filled up to two, start as the string does. -/
theorem take_getD_two {tail : List Byte} {n : Nat} (hn : n ≤ 2) (hlen : n ≤ tail.length) :
    [tail.getD 0 0, tail.getD 1 0].take n = tail.take n := by
  interval_cases n
  · rfl
  · obtain ⟨a, as, rfl⟩ := List.exists_cons_of_length_pos hlen
    rfl
  · obtain ⟨a, _ | ⟨b, bs⟩, rfl⟩ := List.exists_cons_of_length_pos (Nat.zero_lt_of_lt hlen)
    · simp at hlen
    · rfl

end Sys2Proof.Machine

namespace Sys2Proof.EncodingProofs

open Sys2Proof.Machine

/-- Settles O1: a well-formed instruction has an opcode, at which the decoder finds it. -/
theorem decodeOfEncodeIsTheInstruction : Obligations.DecodeOfEncodeIsTheInstruction := by
  unfold Obligations.DecodeOfEncodeIsTheInstruction
  intro dbg i rest hdbg hi
  obtain ⟨op, hop⟩ := exists_opcode hi
  rw [encode_of_opcode hop, List.cons_append, decode_cons dbg op _ (decodeBytes_of_opcode hdbg hi hop rest),
    ← bytes_length, List.drop_left, if_pos (by simp)]

/-- Settles O2: an instruction is read from its own opcode and operand bytes, two at most. -/
theorem decodedBytesAreTheEncoding : Obligations.DecodedBytesAreTheEncoding := by
  unfold Obligations.DecodedBytesAreTheEncoding
  intro dbg bytes rest i h
  obtain ⟨op, tail, rfl, rfl, hlen, rfl⟩ := decode_ok h
  have hread := readFrom_decodeBytes dbg op (tail.getD 0 0) (tail.getD 1 0)
  have htwo := hread.operandBytes_le
  refine ⟨hread.wellFormed, ?_, Nat.le_add_right .., Nat.add_le_add_left htwo 1⟩
  rw [encode_of_opcode hread.opcode, hread.bytes, take_getD_two htwo hlen, List.cons_append, List.take_append_drop]

end Sys2Proof.EncodingProofs
end

section
/-! PROOFS. The undefined values and `lookup` (30_encoding.md R65 to R67). -/

namespace Sys2Proof.Machine

/-- A byte decodes to an undefined value exactly when it is one that no debug opcode takes (30 R65, R72). -/
theorem mnemonic_decodeBytes_eq_undefined_iff (dbg : DebugOpcodes) (op b1 b2 : Byte) :
    (decodeBytes dbg op b1 b2).mnemonic = .undefined ↔ op ∈ undefinedOpcodes ∧ op ∉ dbg.values := by
  constructor
  · intro h
    obtain ⟨form, hform⟩ := mnemonic_eq_undefined_iff.mp h
    obtain ⟨-, hop, hfree⟩ := decodeBytes_undefined hform
    exact ⟨hop, hfree⟩
  · rintro ⟨hop, hfree⟩
    rw [decodeBytes_eq, if_pos hop, debugInstr_eq_none.mpr hfree]
    exact (mnemonic_decodeMap_eq_undefined_iff op b1 b2).mpr hop

/-- `lookup` has the descriptor of what the byte decodes to, but for an undefined value under `fault` (30 R65, R67). -/
theorem lookup_eq (p : Params) (op : Byte) :
    lookup p op =
      if (decodeBytes p.debugOpcodes op 0 0).mnemonic = .undefined ∧ p.undefPolicy = .fault then none
      else some ((decodeBytes p.debugOpcodes op 0 0).descriptor p op) := by
  unfold lookup
  split
  case h_1 form hform =>
    rw [hform]
    cases hpol : p.undefPolicy with
    | fault => exact (if_pos ⟨rfl, rfl⟩).symm
    | wdcNop => exact (if_neg fun h => nomatch h.2).symm
  case h_2 hne =>
    rw [if_neg fun h => ?_]
    obtain ⟨form, hform⟩ := mnemonic_eq_undefined_iff.mp h.1
    exact hne form hform

theorem lookup_opcode {p : Params} {op : Byte} {d : Descriptor} (h : lookup p op = some d) : d.opcode = op := by
  rw [lookup_eq] at h
  split at h <;> cases h
  rfl

theorem lookup_eq_none_iff (p : Params) (op : Byte) :
    lookup p op = none ↔ op ∈ undefinedOpcodes ∧ op ∉ p.debugOpcodes.values ∧ p.undefPolicy = .fault := by
  rw [lookup_eq, ← and_assoc, ← mnemonic_decodeBytes_eq_undefined_iff _ op 0 0]
  split
  case isTrue h => exact iff_of_true rfl h
  case isFalse h => exact iff_of_false (nomatch ·) h

theorem baseCycles_undefined (p : Params) (form : UndefForm) :
    (Instr.undefined form).baseCycles p = cycleOf form.opcode := rfl

end Sys2Proof.Machine

namespace Sys2Proof.EncodingProofs

open Sys2Proof.Machine

/-- Settles O3: the lengths and costs are those of each form's own values; the rest is the map's and `lookup`'s. -/
theorem undefinedValuesAreTheOtherBytes : Obligations.UndefinedValuesAreTheOtherBytes := by
  unfold Obligations.UndefinedValuesAreTheOtherBytes
  refine ⟨by decide, by decide, fun op b1 b2 => ?_, fun p form hform => ?_,
    fun p op => ⟨fun _ => lookup_opcode, lookup_eq_none_iff p op⟩⟩
  · rw [← mnemonic_eq_undefined_iff]
    exact mnemonic_decodeMap_eq_undefined_iff op b1 b2
  · cases form with
    | one op | imm op b | zp op b | zpX op b | abs op w =>
      have hop := of_decide_eq_true hform
      rw [baseCycles_undefined]
      simp only [UndefForm.opcode]
      fin_cases hop <;> rfl

end Sys2Proof.EncodingProofs
end

section
/-! PROOFS. The bit fields inside the opcode byte (30_encoding.md R63), the costs of the cycle table (R66) and single
words of the map (R64). -/

namespace Sys2Proof.Machine

/-- A byte with residue `r` modulo `m`, a divisor of 256, is one of the bytes `m * k + r`. -/
theorem exists_byte_of_residue {m n r : Nat} (hmn : m * n = 256) {op : Byte} (hop : op.toNat % m = r) :
    ∃ k : Fin n, op = BitVec.ofNat 8 (m * k + r) := by
  refine ⟨⟨op.toNat / m, Nat.div_lt_of_lt_mul (hmn ▸ op.isLt)⟩, ?_⟩
  rw [← hop, Nat.div_add_mod, BitVec.ofNat_toNat, BitVec.setWidth_eq]

/-- Column 7 of the map: RMB below 0x80 and SMB from there on, by bit number (30 R63). -/
theorem decodeMap_column_7 {op : Byte} (hop : op.toNat % 16 = 7) (b1 b2 : Byte) :
    decodeMap op b1 b2 =
      if op.toNat < 128 then Spec.rmb (op.toNat / 16 % 8) b1 else Spec.smb (op.toNat / 16 % 8) b1 := by
  obtain ⟨row, rfl⟩ := exists_byte_of_residue (n := 16) rfl hop
  fin_cases row <;> rfl

/-- Column F of the map: BBR and BBS, split in the same way (30 R63). -/
theorem decodeMap_column_F {op : Byte} (hop : op.toNat % 16 = 15) (b1 b2 : Byte) :
    decodeMap op b1 b2 =
      if op.toNat < 128 then Spec.bbr (op.toNat / 16 % 8) b1 b2 else Spec.bbs (op.toNat / 16 % 8) b1 b2 := by
  obtain ⟨row, rfl⟩ := exists_byte_of_residue (n := 16) rfl hop
  fin_cases row <;> rfl

/-- The bytes `ffv10000` are the conditional branches (30 R63). -/
theorem decodeMap_branch {op : Byte} (hop : op.toNat % 32 = 16) (b1 b2 : Byte) :
    decodeMap op b1 b2 = Spec.branchOf (op.toNat / 64) (op.getLsbD 5) b1 := by
  obtain ⟨row, rfl⟩ := exists_byte_of_residue (n := 8) rfl hop
  fin_cases row <;> rfl

end Sys2Proof.Machine

namespace Sys2Proof.EncodingProofs

open Sys2Proof.Machine

/-- Settles O4: each clause is a set of rows with one residue. -/
theorem opcodeBitFieldsOfBitOperationsAndBranches : Obligations.OpcodeBitFieldsOfBitOperationsAndBranches := by
  unfold Obligations.OpcodeBitFieldsOfBitOperationsAndBranches
  exact ⟨fun _ b1 b2 hop => decodeMap_column_7 hop b1 b2, fun _ b1 b2 hop => decodeMap_column_F hop b1 b2,
    fun _ b1 b2 hop => decodeMap_branch hop b1 b2, fun _ _ => rfl⟩

/-- Settles O5: each form has one opcode, and the cost table one number there. -/
theorem baseCyclesOfReadAndStoreForms : Obligations.BaseCyclesOfReadAndStoreForms := by
  unfold Obligations.BaseCyclesOfReadAndStoreForms
  intro p
  refine ⟨fun k hk b w => ?_, fun k hk b w => ?_, fun b w => ⟨rfl, rfl⟩,
    fun b w => ⟨rfl, rfl, rfl, rfl, rfl, rfl, rfl, rfl, rfl⟩, fun i hi => ?_, rfl, rfl⟩
  · fin_cases hk <;> rfl
  · fin_cases hk <;> rfl
  · fin_cases hi <;> rfl

/-- Settles O6: the decoder evaluated on each word. -/
theorem encodedWordsOfEveryFamily : Obligations.EncodedWordsOfEveryFamily := by
  unfold Obligations.EncodedWordsOfEveryFamily
  exact ⟨rfl, rfl, rfl, rfl, rfl, rfl, rfl, rfl, rfl, rfl, rfl, rfl, rfl⟩

end Sys2Proof.EncodingProofs
end

section
/-! PROOFS. One step (40_pipeline.md R81 to R86): the instruction it runs is the one whose encoding lies at PC, and the
outcome it returns is that instruction's own. -/

namespace Sys2Proof.Machine

open Sys2Proof.Spec

/-! The instruction that a step fetches. -/

theorem operandBytes_le_two {dbg : DebugOpcodes} (hdbg : dbg.wf = true) {i : Instr} (hi : i.wellFormed dbg = true) :
    i.operandBytes ≤ 2 := by
  obtain ⟨op, hop⟩ := exists_opcode hi
  have hread := readFrom_decodeBytes dbg op ((i.bytes ++ []).getD 0 0) ((i.bytes ++ []).getD 1 0)
  rw [decodeBytes_of_opcode hdbg hi hop []] at hread
  exact hread.operandBytes_le

/-- Operand bytes that memory holds from PC + 1 on are the first of the two bytes a fetch looks at there. -/
theorem bytes_prefix_of_memRead {s : State} {i : Instr} (hlen : i.operandBytes ≤ 2)
    (hmem : ∀ k b, i.bytes[k]? = some b → memRead s (s.pc + BitVec.ofNat 16 (k + 1)) = b) :
    i.bytes <+: [memRead s (s.pc + 1), memRead s (s.pc + 1 + 1)] := by
  rw [← bytes_length] at hlen
  rw [List.prefix_iff_getElem?]
  intro k hk
  have hbyte := hmem k _ (List.getElem?_eq_getElem hk)
  have hk2 : k < 2 := by omega
  interval_cases k
  · exact congrArg some hbyte
  · rw [← hbyte, BitVec.add_assoc]
    rfl

/-- The fetch reads back the encoding that lies at PC (R83, R84). -/
theorem fetchInstr_of_encoded {s : State} {i : Instr} (hdbg : s.params.debugOpcodes.wf = true)
    (hi : i.wellFormed s.params.debugOpcodes = true)
    (hmem : ∀ k b, (encode s.params.debugOpcodes i)[k]? = some b → memRead s (s.pc + BitVec.ofNat 16 k) = b) :
    fetchInstr s = i := by
  obtain ⟨op, hop⟩ := exists_opcode hi
  rw [encode_of_opcode hop] at hmem
  have hopcode : memRead s s.pc = op := BitVec.add_zero s.pc ▸ hmem 0 op rfl
  obtain ⟨rest, hrest⟩ := bytes_prefix_of_memRead (operandBytes_le_two hdbg hi) fun k => hmem (k + 1)
  have hdecode := decodeBytes_of_opcode hdbg hi hop rest
  rw [hrest, ← hopcode] at hdecode
  exact hdecode

/-! The outcome that a step returns. -/

/-- The outcome of an instruction that completes (R81). -/
def outcomeOf (i : Instr) (s : State) : StepOutcome :=
  if isHalt i s then .finished else if i.mnemonic = .opBreakpoint then .pause else .cont

/-- An instruction that completes does so with its own outcome, whatever else it does before. -/
theorem exec_eq_complete {i : Instr} {s : State} (hi : i.mnemonic ≠ .undefined ∨ s.params.undefPolicy = .wdcNop) :
    ∃ extra u, exec i s = complete i extra (outcomeOf i s) u := by
  cases i with
  | brk =>
    change ∃ extra u, execBrk s = _
    rw [execBrk, fetchOperands_params, outcomeOf, isHalt]
    cases s.params.brkMode with
    | terminal | vectored => exact ⟨_, _, rfl⟩
  | undefined form =>
    have hnop : s.params.undefPolicy = .wdcNop := hi.resolve_left fun h => h rfl
    exact ⟨_, _, execUndefined_wdcNop hnop form⟩
  | _ => exact ⟨_, _, rfl⟩

theorem outcome_of_exec {i : Instr} {s t : State} (hi : i.mnemonic ≠ .undefined ∨ s.params.undefPolicy = .wdcNop)
    (h : exec i s = .next t) : t.outcome = outcomeOf i s := by
  obtain ⟨extra, u, hexec⟩ := exec_eq_complete hi
  rw [hexec] at h
  rw [complete_next h]

/-- An answer without a fault is a completed instruction's. -/
theorem completes_of_no_fault {i : Instr} {s t : State} (h : exec i s = .next t) (ht : t.fault = none) :
    i.mnemonic ≠ .undefined ∨ s.params.undefPolicy = .wdcNop := by
  refine (completes_or_faults i s).resolve_right fun ⟨hi, hpol⟩ => ?_
  obtain ⟨form, rfl⟩ := mnemonic_eq_undefined_iff.mp hi
  cases (execUndefined_fault hpol form).symm.trans h
  cases ht

theorem mnemonic_eq_opBreakpoint_iff {i : Instr} : i.mnemonic = .opBreakpoint ↔ i = .opBreakpoint := by
  cases i with
  | opBreakpoint => exact iff_of_true rfl rfl
  | _ => exact ⟨(nomatch ·), (nomatch ·)⟩

theorem outcomeOf_eq_finished_iff (i : Instr) (s : State) : outcomeOf i s = .finished ↔ isHalt i s = true := by
  unfold outcomeOf
  split_ifs with hhalt <;> simp [hhalt]

theorem outcomeOf_eq_pause_iff (i : Instr) (s : State) : outcomeOf i s = .pause ↔ i = .opBreakpoint := by
  rw [← mnemonic_eq_opBreakpoint_iff]
  unfold outcomeOf
  split_ifs with hhalt hbreak
  · refine iff_of_false (nomatch ·) fun hbreak => ?_
    simp [isHalt, hbreak] at hhalt
  · exact iff_of_true rfl hbreak
  · exact iff_of_false (nomatch ·) hbreak

end Sys2Proof.Machine

namespace Sys2Proof.PipelineProofs

open Sys2Proof.Machine Sys2Proof.Spec

/-- Settles O10: a step without a fault is a completed instruction, whose outcome is its own. -/
theorem outcomesComeFromTheirInstructionsOnly : Obligations.OutcomesComeFromTheirInstructionsOnly := by
  unfold Obligations.OutcomesComeFromTheirInstructionsOnly
  intro s t _ h ht
  obtain ⟨-, hexec⟩ := step_next h
  rw [outcome_of_exec (completes_of_no_fault hexec ht) hexec]
  exact ⟨outcomeOf_eq_pause_iff _ s, outcomeOf_eq_finished_iff _ s⟩

/-- Settles O7: the fetch reads the encoding at PC back, and a step runs what it fetched. -/
theorem stepRunsTheDecodedInstruction : Obligations.StepRunsTheDecodedInstruction := by
  unfold Obligations.StepRunsTheDecodedInstruction
  intro s i hs hdbg hi hmem
  rw [step_eq_exec hs, fetchInstr_of_encoded hdbg hi hmem]

end Sys2Proof.PipelineProofs
end

section
/-! PROOFS. The address modes on numbers (41_addressing.md R100 to R115): the two shapes of a resolved address, then the
word of page 0 that the indirect modes start from. -/

namespace Sys2Proof.Machine

open Sys2Proof.Spec

theorem hiByte_toNat (w : Word) : (hiByte w).toNat = w.toNat / 256 := by
  rw [hiByte_eq_ofNat, BitVec.toNat_ofNat]
  omega

theorem word_eq_ofNat {w : Word} {n : Nat} (h : w.toNat = n) : w = BitVec.ofNat 16 n := by
  rw [← h, BitVec.ofNat_toNat, BitVec.setWidth_eq]

theorem Resolved.plain_eq_of_toNat {w : Word} {n : Nat} (h : w.toNat = n) :
    Resolved.plain w = { addr := BitVec.ofNat 16 n, crossed := false } := by
  rw [Resolved.plain, word_eq_ofNat h]

/-- A 16-bit index wraps at 65536, and the high bytes are compared as the page numbers they are (41 R101, R110). -/
theorem Resolved.indexed_eq_of_toNat {base : Word} {n : Nat} (h : base.toNat = n) (index : Byte) :
    Resolved.indexed base index
      = { addr := BitVec.ofNat 16 ((n + index.toNat) % 65536),
          crossed := decide ((n + index.toNat) % 65536 / 256 ≠ n / 256) } := by
  have hsum : (base + zext16 index).toNat = (n + index.toNat) % 65536 := by
    rw [BitVec.toNat_add, zext16_toNat, h]
  have hpage : hiByte (base + zext16 index) ≠ hiByte base ↔ (n + index.toNat) % 65536 / 256 ≠ n / 256 := by
    rw [Ne, ← BitVec.toNat_inj, hiByte_toNat, hiByte_toNat, hsum, h]
  rw [Resolved.indexed, decide_eq_decide.mpr hpage, word_eq_ofNat hsum]

theorem zext16_add_toNat (b index : Byte) : (zext16 (b + index)).toNat = (b.toNat + index.toNat) % 256 := by
  rw [zext16_toNat, BitVec.toNat_add]

/-- Both bytes of a page-0 word wrap inside page 0, from an address known modulo 256 (20 R46). -/
theorem memReadZp16_toNat {z : Byte} {k : Nat} (h : z.toNat = k % 256) (s : State) :
    (memReadZp16 s z).toNat
      = (s.mem.read (k % 256)).toNat + 256 * (s.mem.read ((k + 1) % 256)).toNat := by
  rw [(MemoryProofs.sixteenBitPointerReads s).2 z, h, Nat.mod_add_mod]

theorem bytes_join (b1 b2 : Byte) : [loByte (joinBytes b1 b2), hiByte (joinBytes b1 b2)] = [b1, b2] := by
  rw [loByte_joinBytes, hiByte_joinBytes]

end Sys2Proof.Machine

namespace Sys2Proof.AddressingProofs

open Sys2Proof.Machine Sys2Proof.Spec

/-- Settles O19: each mode is a plain or an indexed address whose base is known as a number; an operand goes through
its address, with Z and N on numbers. -/
theorem operandsOfEveryMode : Obligations.OperandsOfEveryMode := by
  unfold Obligations.OperandsOfEveryMode
  intro s b b1 b2 v w z plain indexed
  have hw : (joinBytes b1 b2).toNat = w := joinBytes_toNat b1 b2
  have hz : (memReadZp16 s b).toNat = z b.toNat := memReadZp16_toNat (Nat.mod_eq_of_lt b.isLt).symm s
  have hzX : (memReadZp16 s (b + s.x)).toNat = z (b.toNat + s.x.toNat) :=
    memReadZp16_toNat (BitVec.toNat_add b s.x) s
  refine ⟨?zp, rfl, ?zpX, rfl, ?zpY, rfl, ?abs, bytes_join b1 b2, ?absX, bytes_join b1 b2, ?absY, bytes_join b1 b2,
    ?zpInd, rfl, ?zpXInd, rfl, ?zpIndY, rfl, rfl, rfl, ?acc, fun ea => ⟨rfl, rfl, ?mem⟩⟩
  case zp => exact Resolved.plain_eq_of_toNat (zext16_toNat b)
  case zpX => exact Resolved.plain_eq_of_toNat (zext16_add_toNat b s.x)
  case zpY => exact Resolved.plain_eq_of_toNat (zext16_add_toNat b s.y)
  case abs => exact Resolved.plain_eq_of_toNat hw
  case absX => exact Resolved.indexed_eq_of_toNat hw s.x
  case absY => exact Resolved.indexed_eq_of_toNat hw s.y
  case zpInd => exact Resolved.plain_eq_of_toNat hz
  case zpXInd => exact Resolved.plain_eq_of_toNat hzX
  case zpIndY => exact Resolved.indexed_eq_of_toNat hz s.y
  case acc => rw [writeRmw_acc, Flags.withZN_eq_znOf]
  case mem => rw [writeRmw_mem, Flags.withZN_eq_znOf]

end Sys2Proof.AddressingProofs
end

section
/-! PROOFS. The rows of the opcode table that an instruction has (30_encoding.md R64; 41_addressing.md R120): from its
opcode list to the modes it exists in and to what its encoding decodes to. -/

namespace Sys2Proof.Machine

open Sys2Proof.Spec

/-- The opcode that the list of a defined instruction has, followed by the operand bytes, decodes to the instruction,
whatever follows and whatever the debug opcodes. -/
theorem decode_of_tableOpcode {i : Instr} (hi : i.mnemonic ≠ .undefined) {op : Byte} (hop : i.tableOpcode = some op)
    (dbg : DebugOpcodes) (rest : List Byte) : decode dbg (op :: (i.bytes ++ rest)) = .ok (i, rest) := by
  have hmap := decodeMap_tableOpcode hop (fun form hform => absurd (hform ▸ rfl) hi) rest
  have hdef : op ∉ undefinedOpcodes := fun hmem => hi (hmap ▸ (mnemonic_decodeMap_eq_undefined_iff ..).mpr hmem)
  have hbytes := (decodeBytes_eq dbg op ..).trans ((if_neg hdef).trans hmap)
  rw [decode_cons dbg op _ hbytes, ← bytes_length, List.drop_left, if_pos (by simp)]

section DefinedInstr

variable {i : Instr} {rows : List (AddrMode × Byte)}
  (hi : decide (i.mnemonic ∈ [.undefined, .opBreakpoint, .opRegdump, .opMemdump]) = false)

include hi

/-- A defined instruction exists in the modes of its mnemonic, whatever the debug opcodes (41 R120). -/
theorem wellFormed_iff_mode_mem (dbg : DebugOpcodes) :
    i.wellFormed dbg = true ↔ i.mode ∈ i.mnemonic.allowedModes := by
  unfold Instr.wellFormed
  split
  case h_5 => simp
  all_goals cases hi

/-- The rows of a defined instruction: their modes are its mnemonic's, in any order, and each row has its opcode. -/
theorem rows_of_tableOpcode (hmodes : i.mnemonic.allowedModes.isPerm (rows.map Prod.fst) = true)
    (hop : ∀ row ∈ rows, row.1 = i.mode → i.tableOpcode = some row.2) : Rows i rows := by
  have hdef : i.mnemonic ≠ .undefined := fun hundef => by simp [hundef] at hi
  refine ⟨fun dbg => ?_, fun row hrow hmode dbg rest => decode_of_tableOpcode hdef (hop row hrow hmode) dbg rest⟩
  rw [wellFormed_iff_mode_mem hi, (List.isPerm_iff.mp hmodes).mem_iff]

/-- The rows of an instruction with operand forms, against the list `pairs` that `tableOpcode` looks its mode up in. -/
theorem rows_of_opcodeFor {pairs : List (AddrMode × Byte)} (htable : i.tableOpcode = opcodeFor i.mode pairs)
    (hmodes : i.mnemonic.allowedModes.isPerm (rows.map Prod.fst) = true)
    (hops : rows.all (fun row => opcodeFor row.1 pairs == some row.2) = true) : Rows i rows := by
  refine rows_of_tableOpcode hi hmodes fun row hrow hmode => ?_
  rw [htable, ← hmode]
  exact beq_iff_eq.mp (List.all_eq_true.mp hops row hrow)

/-- The row of an instruction that has one. -/
theorem rows_single {mode : AddrMode} {op : Byte} (hmode : i.mnemonic.allowedModes = [mode])
    (hop : i.tableOpcode = some op) : Rows i [(mode, op)] := by
  refine rows_of_tableOpcode hi (List.isPerm_iff.mpr (.of_eq hmode)) fun row hrow _ => ?_
  rw [List.mem_singleton.mp hrow, hop]

end DefinedInstr

end Sys2Proof.Machine
end

section
/-! PROOFS. What an instruction leaves when it completes from PC_next (40_pipeline.md R84 to R87): `after`, with the
fields that the last shared operation writes. Then the stack on numbers and the byte that PLP loads. -/

namespace Sys2Proof.Machine

open Sys2Proof.Spec

/-- PC_next as a number and the cycles in one sum are the same state. -/
theorem after_eq_fetchOperands (i : Instr) (extra : Nat) (s : State) :
    after i extra s =
      { fetchOperands i s with
        totalCycles := s.totalCycles + (i.baseCycles s.params + extra), outcome := .cont } := by
  have hpc : BitVec.ofNat 16 (s.pc.toNat + i.length) = s.pc + BitVec.ofNat 16 i.length := by
    rw [BitVec.ofNat_add, BitVec.ofNat_toNat, BitVec.setWidth_eq]
  rw [after, hpc, Nat.add_assoc]
  rfl

theorem complete_setA (i : Instr) (extra : Nat) (v : Byte) (s : State) :
    complete i extra .cont (setA v (fetchOperands i s))
      = .next { after i extra s with a := v, flags := znOf s.flags v } := by
  rw [after_eq_fetchOperands, ← Flags.withZN_eq_znOf]
  rfl

theorem complete_setX (i : Instr) (extra : Nat) (v : Byte) (s : State) :
    complete i extra .cont (setX v (fetchOperands i s))
      = .next { after i extra s with x := v, flags := znOf s.flags v } := by
  rw [after_eq_fetchOperands, ← Flags.withZN_eq_znOf]
  rfl

theorem complete_setY (i : Instr) (extra : Nat) (v : Byte) (s : State) :
    complete i extra .cont (setY v (fetchOperands i s))
      = .next { after i extra s with y := v, flags := znOf s.flags v } := by
  rw [after_eq_fetchOperands, ← Flags.withZN_eq_znOf]
  rfl

theorem complete_setSp (i : Instr) (extra : Nat) (v : Byte) (s : State) :
    complete i extra .cont (setSp v (fetchOperands i s)) = .next { after i extra s with sp := v } := by
  rw [after_eq_fetchOperands]
  rfl

theorem complete_setFlags (i : Instr) (extra : Nat) (f : Flags) (s : State) :
    complete i extra .cont (setFlags f (fetchOperands i s)) = .next { after i extra s with flags := f } := by
  rw [after_eq_fetchOperands]
  rfl

theorem complete_memWrite (i : Instr) (extra : Nat) (k : Word) (v : Byte) (s : State) :
    complete i extra .cont (memWrite (fetchOperands i s) k v)
      = .next { after i extra s with mem := s.mem.write k.toNat v } := by
  rw [after_eq_fetchOperands]
  rfl

/-- A push, on numbers (20 R50). -/
theorem push_eq_ofNat (v : Byte) (s : State) :
    push v s = { s with sp := BitVec.ofNat 8 (s.sp.toNat + 255), mem := s.mem.write (256 + s.sp.toNat) v } := by
  have hsp : s.sp - 1 = BitVec.ofNat 8 (s.sp.toNat + 255) := by bv_omega
  rw [push_eq, stackAddr_toNat, hsp]

theorem complete_push (i : Instr) (extra : Nat) (v : Byte) (s : State) :
    complete i extra .cont (push v (fetchOperands i s))
      = .next
        { after i extra s with
          sp := BitVec.ofNat 8 (s.sp.toNat + 255), mem := s.mem.write (256 + s.sp.toNat) v } := by
  rw [after_eq_fetchOperands, push_eq_ofNat]
  rfl

/-- The pulled byte, on numbers (20 R50). -/
theorem pulled_eq_read (s : State) : pulled s = s.mem.read (stackAt s 1) :=
  congrArg s.mem.read (stackAddr_toNat_add s 1)

theorem byte_add_one (b : Byte) : b + 1 = BitVec.ofNat 8 (b.toNat + 1) := by bv_omega

/-- The flags of a packed byte, on numbers (10 R18). -/
theorem Flags.unpack_eq (p : Byte) :
    Flags.unpack p =
      { c := p.toNat % 2 = 1, z := p.toNat / 2 % 2 = 1, i := p.toNat / 4 % 2 = 1, d := p.toNat / 8 % 2 = 1,
        b := p.toNat / 16 % 2 = 1, v := p.toNat / 64 % 2 = 1, n := 128 ≤ p.toNat } := by
  have bit (k : Nat) : p.getLsbD k = decide (p.toNat / 2 ^ k % 2 = 1) := Nat.testBit_eq_decide_div_mod_eq
  have hn : p.getLsbD 7 = decide (128 ≤ p.toNat) := (BitVec.msb_eq_getLsbD_last p).symm.trans (BitVec.msb_eq_decide p)
  rw [Flags.unpack, hn, bit 0, bit 1, bit 2, bit 3, bit 4, bit 6]
  simp only [Nat.pow_zero, Nat.div_one]
  rfl

/-- An instruction that stores to one address leaves every other byte. -/
theorem memRead_of_exec_single {i : Instr} {s t : State} {k p : Word} (hk : storeAddrs i s = [k])
    (h : exec i s = .next t) (hp : p ≠ k) : memRead t p = memRead s p :=
  (exec_stored h).read_other fun hmem => hp (List.mem_singleton.mp (hk ▸ hmem))

/-- An instruction that stores at the stack pointer leaves every byte but the one at 0x0100 + S. -/
theorem memRead_of_exec_push {i : Instr} {s t : State} {p : Word} (hk : storeAddrs i s = [stackAddr s.sp])
    (h : exec i s = .next t) (hp : p.toNat ≠ 256 + s.sp.toNat) : memRead t p = memRead s p :=
  memRead_of_exec_single hk h fun hps => hp (hps ▸ stackAddr_toNat s.sp)

end Sys2Proof.Machine
end

section
/-! PROOFS. Loads, stores, transfers, pushes and pulls (42_load_store_transfer.md R130 to R150): each completes with one
shared operation, and each opcode list is compared with the statement's rows by evaluation. -/

namespace Sys2Proof.TransferProofs

open Sys2Proof.Machine Sys2Proof.Spec

/-- Settles O21: each store completes with one write of memory, at its one store address. -/
theorem storesWriteOneByteAndNoFlag : Obligations.StoresWriteOneByteAndNoFlag := by
  unfold Obligations.StoresWriteOneByteAndNoFlag
  intro s ea
  refine ⟨?sta, ?stx, ?sty, ?stz, ?frame, rows_of_opcodeFor rfl rfl rfl rfl, rows_of_opcodeFor rfl rfl rfl rfl,
    rows_of_opcodeFor rfl rfl rfl rfl, rows_of_opcodeFor rfl rfl rfl rfl, fun p w b => rfl⟩
  case sta => exact complete_memWrite (.sta ea) 0 (resolveEa ea s).addr s.a s
  case stx => exact complete_memWrite (.stx ea) 0 (resolveEa ea s).addr s.x s
  case sty => exact complete_memWrite (.sty ea) 0 (resolveEa ea s).addr s.y s
  case stz => exact complete_memWrite (.stz ea) 0 (resolveEa ea s).addr 0x00 s
  case frame =>
    intro i t hi h p hp
    have hk : storeAddrs i s = [(resolveEa ea s).addr] := by fin_cases hi <;> rfl
    exact memRead_of_exec_single hk h hp

/-- Settles O23: pushes and pulls on numbers; a pull goes to its register through the setter. -/
theorem registerPushesAndPulls : Obligations.RegisterPushesAndPulls := by
  unfold Obligations.RegisterPushesAndPulls
  intro s v sp'
  have hv : pulled s = v := pulled_eq_read s
  have hsp : s.sp + 1 = sp' := byte_add_one s.sp
  refine ⟨complete_push .pha 0 s.a s, complete_push .phx 0 s.x s, complete_push .phy 0 s.y s, ?frame, ?pla, ?plx, ?ply,
    rows_single rfl rfl rfl, rows_single rfl rfl rfl, rows_single rfl rfl rfl, rows_single rfl rfl rfl,
    rows_single rfl rfl rfl, rows_single rfl rfl rfl, ?cycles⟩
  case frame =>
    intro i t hi h p hp
    have hk : storeAddrs i s = [stackAddr s.sp] := by fin_cases hi <;> rfl
    exact memRead_of_exec_push hk h hp
  case pla => rw [← hv, ← hsp]; exact complete_setA .pla 0 (pulled s) (afterPull s)
  case plx => rw [← hv, ← hsp]; exact complete_setX .plx 0 (pulled s) (afterPull s)
  case ply => rw [← hv, ← hsp]; exact complete_setY .ply 0 (pulled s) (afterPull s)
  case cycles =>
    refine fun p => ⟨fun i hi => ?_, fun i hi => ?_⟩
    · fin_cases hi <;> rfl
    · fin_cases hi <;> rfl

/-- Settles O24: PHP is a push, and PLP loads the flags of the pulled byte bit by bit. -/
theorem statusPushAndPull : Obligations.StatusPushAndPull := by
  unfold Obligations.StatusPushAndPull
  intro s v
  have hv : pulled s = v := pulled_eq_read s
  refine ⟨complete_push .php 0 s.flags.pushedByte s, ?plp, fun t h p hp => memRead_of_exec_push rfl h hp,
    rows_single rfl rfl rfl, rows_single rfl rfl rfl⟩
  case plp =>
    rw [← Flags.unpack_eq, ← hv, ← byte_add_one]
    exact complete_setFlags .plp 0 (Flags.unpack (pulled s)) (afterPull s)

/-- Settles O20: each load completes with its register's setter. -/
theorem loadsSetRegisterAndZN : Obligations.LoadsSetRegisterAndZN := by
  unfold Obligations.LoadsSetRegisterAndZN
  intro s op v extra
  refine ⟨?lda, ?ldx, ?ldy, rows_of_opcodeFor rfl rfl rfl rfl, rows_of_opcodeFor rfl rfl rfl rfl,
    rows_of_opcodeFor rfl rfl rfl rfl⟩
  case lda => exact complete_setA (.lda op) extra v s
  case ldx => exact complete_setX (.ldx op) extra v s
  case ldy => exact complete_setY (.ldy op) extra v s

/-- Settles O22: each transfer completes with its target's setter; S has one that derives no flag. -/
theorem transfersCopyRegisters : Obligations.TransfersCopyRegisters := by
  unfold Obligations.TransfersCopyRegisters
  exact fun s =>
    ⟨complete_setX .tax 0 s.a s, complete_setY .tay 0 s.a s, complete_setA .txa 0 s.x s, complete_setA .tya 0 s.y s,
      complete_setX .tsx 0 s.sp s, complete_setSp .txs 0 s.x s, rows_single rfl rfl rfl, rows_single rfl rfl rfl,
      rows_single rfl rfl rfl, rows_single rfl rfl rfl, rows_single rfl rfl rfl, rows_single rfl rfl rfl⟩

end Sys2Proof.TransferProofs
end

section
/-! PROOFS. Logic, compares, bit tests, increments and decrements (43_alu.md R172 to R186): the flags and the wrapped
bytes on numbers, then one use of the operation that each instruction completes with. -/

namespace Sys2Proof.Machine

open Sys2Proof.Spec

/-- Bit 7 of a byte, on numbers. -/
theorem byte_getLsbD_seven (v : Byte) : v.getLsbD 7 = decide (128 ≤ v.toNat) :=
  (BitVec.msb_eq_getLsbD_last v).symm.trans (BitVec.msb_eq_decide v)

/-- Bit 6 of a byte, on numbers. -/
theorem byte_getLsbD_six (v : Byte) : v.getLsbD 6 = decide (64 ≤ v.toNat % 128) := by
  have hbit : v.getLsbD 6 = decide (v.toNat / 64 % 2 = 1) := Nat.testBit_eq_decide_div_mod_eq
  rw [hbit, decide_eq_decide]
  omega

theorem byte_sub_one_eq_ofNat (b : Byte) : b - 1 = BitVec.ofNat 8 (b.toNat + 255) := by bv_omega

/-- The flags of a compare, on numbers (43 R175). -/
theorem Flags.withCompare_eq (f : Flags) (r v : Byte) :
    f.withCompare r v =
      { f with
        c := decide (v.toNat ≤ r.toNat),
        z := decide (r.toNat = v.toNat),
        n := decide (128 ≤ (r.toNat + 256 - v.toNat) % 256) } := by
  have hdiff : (r - v).toNat = (r.toNat + 256 - v.toNat) % 256 := by bv_omega
  rw [Flags.withCompare, byte_getLsbD_seven, hdiff, decide_eq_decide.mpr BitVec.toNat_inj.symm]

/-- A write of Z and then of memory. -/
theorem complete_memWrite_setFlags (i : Instr) (extra : Nat) (k : Word) (v : Byte) (f : Flags) (s : State) :
    complete i extra .cont (memWrite (setFlags f (fetchOperands i s)) k v)
      = .next { after i extra s with flags := f, mem := s.mem.write k.toNat v } := by
  rw [after_eq_fetchOperands]
  rfl

theorem complete_writeRmw_mem (i : Instr) (extra : Nat) (ea : Ea) (v : Byte) (s : State) :
    complete i extra .cont (writeRmw (.mem ea) v (fetchOperands i s))
      = .next { after i extra s with
          mem := s.mem.write (resolveEa ea s).addr.toNat v, flags := znOf s.flags v } := by
  rw [after_eq_fetchOperands, ← Flags.withZN_eq_znOf, writeRmw_mem]
  rfl

end Sys2Proof.Machine

namespace Sys2Proof.AluProofs

open Sys2Proof.Machine Sys2Proof.Spec

/-- Settles O29: each completes with A's setter. -/
theorem logicCombinesAWithTheOperand : Obligations.LogicCombinesAWithTheOperand := by
  unfold Obligations.LogicCombinesAWithTheOperand
  intro s op v extra
  exact ⟨complete_setA (.and op) extra (s.a &&& v) s, complete_setA (.ora op) extra (s.a ||| v) s,
    complete_setA (.eor op) extra (s.a ^^^ v) s, rows_of_opcodeFor rfl rfl rfl rfl, rows_of_opcodeFor rfl rfl rfl rfl,
    rows_of_opcodeFor rfl rfl rfl rfl⟩

/-- Settles O30: each completes with the flags of a compare, which are known on numbers. -/
theorem comparesSetCarryZeroNegative : Obligations.ComparesSetCarryZeroNegative := by
  unfold Obligations.ComparesSetCarryZeroNegative
  intro s op v extra compared
  have hflags (r : Byte) : s.flags.withCompare r v = compared r := s.flags.withCompare_eq r v
  refine ⟨?cmp, ?cpx, ?cpy, rows_of_opcodeFor rfl rfl rfl rfl, rows_of_opcodeFor rfl rfl rfl rfl,
    rows_of_opcodeFor rfl rfl rfl rfl⟩
  case cmp => rw [← hflags]; exact complete_setFlags (.cmp op) extra (s.flags.withCompare s.a v) s
  case cpx => rw [← hflags]; exact complete_setFlags (.cpx op) extra (s.flags.withCompare s.x v) s
  case cpy => rw [← hflags]; exact complete_setFlags (.cpy op) extra (s.flags.withCompare s.y v) s

/-- Settles O31: the immediate form gives Z alone, a memory form the bits 7 and 6 of its operand too. -/
theorem bitTestSetsZeroAndCopiesNV : Obligations.BitTestSetsZeroAndCopiesNV := by
  unfold Obligations.BitTestSetsZeroAndCopiesNV
  refine fun s => ⟨fun b => ?imm, fun ea => ?mem, fun op => rows_of_opcodeFor rfl rfl rfl rfl⟩
  case imm => exact complete_setFlags (.bit (.imm b)) 0 (s.flags.withZ (decide (s.a &&& b = 0))) s
  case mem =>
    intro v
    rw [← byte_getLsbD_seven, ← byte_getLsbD_six]
    exact complete_setFlags (.bit (.mem ea)) (crossPenalty (resolveEa ea s).crossed)
      ((s.flags.withZ (decide (s.a &&& v = 0))).withNV (v.getLsbD 7) (v.getLsbD 6)) s

/-- Settles O32: each completes with Z and one write of memory, at its one store address. -/
theorem testAndSetResetBits : Obligations.TestAndSetResetBits := by
  unfold Obligations.TestAndSetResetBits
  intro s ea addr m
  refine ⟨complete_memWrite_setFlags (.tsb ea) 0 (resolveEa ea s).addr (m ||| s.a) _ s,
    complete_memWrite_setFlags (.trb ea) 0 (resolveEa ea s).addr (m &&& ~~~s.a) _ s, ?frame,
    rows_of_opcodeFor rfl rfl rfl rfl, rows_of_opcodeFor rfl rfl rfl rfl⟩
  case frame =>
    intro i t hi h p hp
    have hk : storeAddrs i s = [(resolveEa ea s).addr] := by fin_cases hi <;> rfl
    exact memRead_of_exec_single hk h hp

/-- Settles O33: one more and one less on numbers; the result goes to a register's setter or to the one store
address. -/
theorem incrementsAndDecrementsWrap : Obligations.IncrementsAndDecrementsWrap := by
  unfold Obligations.IncrementsAndDecrementsWrap
  intro s ea addr m
  simp only [m, ← byte_add_one, ← byte_sub_one_eq_ofNat]
  refine ⟨complete_setA (.inc .acc) 0 (s.a + 1) s, complete_writeRmw_mem (.inc (.mem ea)) 0 ea (s.mem.read addr + 1) s,
    complete_setA (.dec .acc) 0 (s.a - 1) s, complete_writeRmw_mem (.dec (.mem ea)) 0 ea (s.mem.read addr - 1) s,
    complete_setX .inx 0 (s.x + 1) s, complete_setY .iny 0 (s.y + 1) s, complete_setX .dex 0 (s.x - 1) s,
    complete_setY .dey 0 (s.y - 1) s, ?frame, fun op => ?rows, fun p w => rfl⟩
  case frame =>
    intro i t hi h p hp
    have hk : storeAddrs i s = [(resolveEa ea s).addr] := by fin_cases hi <;> rfl
    exact memRead_of_exec_single hk h hp
  case rows =>
    exact ⟨rows_of_opcodeFor rfl rfl rfl rfl, rows_of_opcodeFor rfl rfl rfl rfl, rows_single rfl rfl rfl,
      rows_single rfl rfl rfl, rows_single rfl rfl rfl, rows_single rfl rfl rfl⟩

end Sys2Proof.AluProofs
end

section
/-! PROOFS. ADC and SBC (43_alu.md R169 to R171): signed overflow on numbers, what each completes with, and the exact
sums and differences, binary and decimal. -/

namespace Sys2Proof.Machine

open Sys2Proof.Spec

/-! The sign of a byte. -/

theorem byte_sign_iff (b : Byte) : 128 ≤ b.toNat ↔ b.getLsbD 7 = true := by
  rw [byte_getLsbD_seven, decide_eq_true_iff]

/-- The mask of the overflow formulas keeps the sign bit. -/
theorem and_sign_ne_zero_iff (b : Byte) : b &&& 0x80 ≠ 0 ↔ b.getLsbD 7 = true := by
  rw [show (0x80 : Byte) = BitVec.twoPow 8 7 from rfl, BitVec.and_twoPow]
  cases b.getLsbD 7 <;> decide

theorem byte_toInt (b : Byte) : b.toInt = if 128 ≤ b.toNat then (b.toNat : Int) - 256 else b.toNat := by
  rw [BitVec.toInt_eq_toNat_cond]
  split <;> split <;> omega

/-- An addition overflows when operands of one sign give the other (43 R170). -/
theorem addOverflow_eq (a m r : Byte) :
    addOverflow a m r = decide ((128 ≤ a.toNat ↔ 128 ≤ m.toNat) ∧ ¬(128 ≤ a.toNat ↔ 128 ≤ r.toNat)) := by
  simp only [addOverflow, and_sign_ne_zero_iff, byte_sign_iff, BitVec.getLsbD_and, BitVec.getLsbD_xor, BitVec.getLsbD_not]
  cases a.getLsbD 7 <;> cases m.getLsbD 7 <;> cases r.getLsbD 7 <;> rfl

/-- A subtraction overflows when operands of two signs give a sign that is not the minuend's (43 R171). -/
theorem subOverflow_eq (a m r : Byte) :
    subOverflow a m r = decide (¬(128 ≤ a.toNat ↔ 128 ≤ m.toNat) ∧ ¬(128 ≤ a.toNat ↔ 128 ≤ r.toNat)) := by
  simp only [subOverflow, and_sign_ne_zero_iff, byte_sign_iff, BitVec.getLsbD_and, BitVec.getLsbD_xor]
  cases a.getLsbD 7 <;> cases m.getLsbD 7 <;> cases r.getLsbD 7 <;> rfl

/-! What ADC and SBC complete with. -/

theorem complete_setA_setFlags (i : Instr) (extra : Nat) (v : Byte) (f : Flags) (s : State) :
    complete i extra .cont (setA v (setFlags f (fetchOperands i s)))
      = .next { after i extra s with a := v, flags := znOf f v } := by
  rw [after_eq_fetchOperands, ← Flags.withZN_eq_znOf]
  rfl

theorem exec_adc (op : Src) (s : State) {res : AluResult}
    (hres : adcResult s.flags.d s.a (readSrc op s).value s.flags.c = res) :
    exec (.adc op) s = .next
      { after (.adc op) ((if s.flags.d then 1 else 0) + crossCost (readSrc op s).crossed) s with
        a := res.value, flags := znOf { s.flags with c := res.carry, v := res.overflow } res.value } := by
  rw [← hres]
  exact complete_setA_setFlags (.adc op) _ _ _ s

theorem exec_sbc (op : Src) (s : State) {res : AluResult}
    (hres : sbcResult s.flags.d s.a (readSrc op s).value s.flags.c = res) :
    exec (.sbc op) s = .next
      { after (.sbc op) ((if s.flags.d then 1 else 0) + crossCost (readSrc op s).crossed) s with
        a := res.value, flags := znOf { s.flags with c := res.carry, v := res.overflow } res.value } := by
  rw [← hres]
  exact complete_setA_setFlags (.sbc op) _ _ _ s

/-! Addition. -/

theorem toNat_decide (p : Prop) [Decidable p] : (decide p).toNat = if p then 1 else 0 := Bool.cond_decide p 1 0

/-- Two decimal digits make a decimal number. -/
theorem bcd_of_digits {h l : Nat} (hh : h ≤ 9) (hl : l ≤ 9) :
    isBcd (BitVec.ofNat 8 (16 * h + l)) ∧ bcdValue (BitVec.ofNat 8 (16 * h + l)) = 10 * h + l := by
  simp only [isBcd, bcdValue, BitVec.toNat_ofNat]
  omega

/-- The corrected sum of two digits and a carry is a digit, with the ten as its carry (43 R170). -/
theorem adjustNibble_digit {n : Nat} (hn : n ≤ 19) :
    adjustNibble n % 16 ≤ 9 ∧ adjustNibble n % 16 + 10 * (if 15 < adjustNibble n then 1 else 0) = n := by
  unfold adjustNibble
  split <;> split <;> omega

section Sum

variable (a m : Byte) (c : Bool)

/-- In binary mode the value with C as its ninth bit is the sum (43 R169, R170). -/
theorem adcBinary_value_add_carry :
    (adcBinary a m c).value.toNat + 256 * (adcBinary a m c).carry.toNat = a.toNat + m.toNat + c.toNat := by
  have hc := c.toNat_le
  simp only [adcBinary, BitVec.toNat_ofNat, toNat_decide]
  split <;> omega

/-- In binary mode V tells that the signed sum leaves -128..127 (43 R170, 10 R24). -/
theorem adcBinary_overflow_iff :
    (adcBinary a m c).overflow = true ↔
      a.toInt + m.toInt + c.toNat < -128 ∨ 127 < a.toInt + m.toInt + c.toNat := by
  have hc := c.toNat_le
  simp only [adcBinary, addOverflow_eq, decide_eq_true_iff, BitVec.toNat_ofNat, byte_toInt]
  split <;> split <;> omega

/-- In decimal mode, on decimal numbers, the value is a decimal number and C its hundreds (43 R170). -/
theorem adcDecimal_exact (ha : isBcd a) (hm : isBcd m) :
    isBcd (adcDecimal a m c).value ∧
      bcdValue (adcDecimal a m c).value + 100 * (adcDecimal a m c).carry.toNat
        = bcdValue a + bcdValue m + c.toNat := by
  have hc := c.toNat_le
  obtain ⟨halo, hahi⟩ := ha
  obtain ⟨hmlo, hmhi⟩ := hm
  obtain ⟨hlo, hlosum⟩ := adjustNibble_digit (n := a.toNat % 16 + m.toNat % 16 + c.toNat) (by omega)
  simp only [adcDecimal, toNat_decide]
  generalize adjustNibble (a.toNat % 16 + m.toNat % 16 + c.toNat) = lo at *
  have hcarry : (if 15 < lo then 1 else 0) ≤ 1 := by split <;> decide
  generalize (if 15 < lo then 1 else 0) = carry at *
  obtain ⟨hhi, hhisum⟩ := adjustNibble_digit (n := a.toNat / 16 + m.toNat / 16 + carry) (by omega)
  obtain ⟨hbcd, hvalue⟩ := bcd_of_digits hhi hlo
  refine ⟨hbcd, ?_⟩
  rw [hvalue, bcdValue, bcdValue]
  omega

end Sum

/-! Subtraction. -/

section Difference

variable (d : Bool) (a m : Byte) (c : Bool)

theorem sbcDiff_bounds : -256 ≤ sbcDiff a m c ∧ sbcDiff a m c ≤ 255 := by
  have hc := c.toNat_le
  unfold sbcDiff
  omega

/-- The difference has no borrow when the operand and the incoming borrow fit in the register. -/
theorem sbcDiff_nonneg_iff : 0 ≤ sbcDiff a m c ↔ (m.toNat : Int) + (1 - c.toNat) ≤ a.toNat := by
  unfold sbcDiff
  omega

/-- Decimal mode changes the value alone (43 R171). -/
theorem sbcResult_eq :
    sbcResult d a m c =
      { value := if d then sbcDecimalValue a m c else BitVec.ofInt 8 (sbcDiff a m c),
        carry := decide (0 ≤ sbcDiff a m c),
        overflow := subOverflow a m (BitVec.ofInt 8 (sbcDiff a m c)) } := by
  cases d <;> rfl

/-- The two decimal corrections, in one expression. -/
theorem sbcDecimalValue_eq :
    sbcDecimalValue a m c = BitVec.ofInt 8
      (sbcDiff a m c - (if sbcDiff a m c < 0 then 0x60 else 0)
        - (if (a.toNat : Int) % 16 - (m.toNat : Int) % 16 + c.toNat - 1 < 0 then 0x06 else 0)) := by
  simp only [sbcDecimalValue, Int.natCast_mod, Nat.cast_ofNat]
  split <;> split <;> simp only [sub_zero]

theorem subOverflow_ofInt (n : Int) :
    subOverflow a m (BitVec.ofInt 8 n) =
      decide (¬(128 ≤ (a.toNat : Int) ↔ 128 ≤ (m.toNat : Int)) ∧ ¬(128 ≤ (a.toNat : Int) ↔ 128 ≤ n % 256)) := by
  rw [subOverflow_eq, decide_eq_decide, BitVec.toNat_ofInt]
  omega

/-- V tells that the signed difference leaves -128..127 (43 R171, 10 R24). -/
theorem subOverflow_sbcDiff_iff :
    subOverflow a m (BitVec.ofInt 8 (sbcDiff a m c)) = true ↔
      a.toInt - m.toInt - (1 - c.toNat) < -128 ∨ 127 < a.toInt - m.toInt - (1 - c.toNat) := by
  have hc := c.toNat_le
  simp only [subOverflow_ofInt, decide_eq_true_iff, byte_toInt, sbcDiff]
  split <;> split <;> omega

/-- On a borrow the byte of the difference is 256 higher (43 R171). -/
theorem ofInt_sbcDiff_toNat :
    ((BitVec.ofInt 8 (sbcDiff a m c)).toNat : Int)
      = sbcDiff a m c + 256 * (1 - (decide (0 ≤ sbcDiff a m c)).toNat) := by
  have hbounds := sbcDiff_bounds a m c
  rw [BitVec.toNat_ofInt, toNat_decide]
  split <;> omega

/-- On decimal numbers the corrected value is a decimal number, 100 higher on a borrow (43 R171). -/
theorem sbcDecimalValue_exact (ha : isBcd a) (hm : isBcd m) :
    isBcd (sbcDecimalValue a m c) ∧
      (bcdValue (sbcDecimalValue a m c) : Int)
        = bcdValue a - bcdValue m - (1 - c.toNat) + 100 * (1 - (decide (0 ≤ sbcDiff a m c)).toNat) := by
  have hc := c.toNat_le
  obtain ⟨halo, hahi⟩ := ha
  obtain ⟨hmlo, hmhi⟩ := hm
  have hdiff : sbcDiff a m c = a.toNat - m.toNat - (1 - c.toNat) := rfl
  simp only [sbcDecimalValue_eq, isBcd, bcdValue, BitVec.toNat_ofInt, toNat_decide]
  generalize sbcDiff a m c = n at *
  -- The cases are the borrow of the byte, that of the low digit, and C.
  split <;> split <;> split <;> omega

end Difference

end Sys2Proof.Machine

namespace Sys2Proof.AluProofs

open Sys2Proof.Machine Sys2Proof.Spec

/-- Settles O25: the result fits in a byte, so V, taken from the byte, is the overflow of the number. -/
theorem adcFollowsItsPseudocode : Obligations.AdcFollowsItsPseudocode := by
  unfold Obligations.AdcFollowsItsPseudocode
  intro s op r a m c lo h hi result carry overflow
  have hlt : result < 256 := by
    simp only [result]
    split <;> omega
  have hoverflow : addOverflow s.a r.value (BitVec.ofNat 8 result) = overflow := by
    rw [addOverflow_eq, BitVec.toNat_ofNat, Nat.mod_eq_of_lt hlt]
  refine ⟨exec_adc op s (res := ⟨BitVec.ofNat 8 result, carry, overflow⟩) ?_, rows_of_opcodeFor rfl rfl rfl rfl⟩
  rw [← hoverflow]
  cases hd : s.flags.d with
  | false =>
    have hmod : BitVec.ofNat 8 ((a + m + c) % 256) = BitVec.ofNat 8 (a + m + c) := by simp [← BitVec.toNat_inj]
    simp only [result, carry, hd, Bool.false_eq_true, if_false, hmod]
    rfl
  | true =>
    simp only [result, carry, hd, if_true, Nat.mul_comm _ 16]
    rfl

/-- Settles O26: the binary and the decimal sum of the ALU are exact. -/
theorem adcAddsExactly : Obligations.AdcAddsExactly := by
  unfold Obligations.AdcAddsExactly
  intro s op m
  refine ⟨_, exec_adc op s rfl, fun hd => ?binary, fun hd ha hm => ?decimal⟩
  case binary =>
    rw [hd]
    exact ⟨adcBinary_value_add_carry s.a m s.flags.c, adcBinary_overflow_iff s.a m s.flags.c⟩
  case decimal =>
    rw [hd]
    exact adcDecimal_exact s.a m s.flags.c ha hm

/-- Settles O27: the sum of corrections and V on numbers are the ALU's. -/
theorem sbcFollowsItsPseudocode : Obligations.SbcFollowsItsPseudocode := by
  unfold Obligations.SbcFollowsItsPseudocode
  intro s op r a m c diff bin t result
  refine ⟨exec_sbc op s (res := ⟨result, _, _⟩) ?_, rows_of_opcodeFor rfl rfl rfl rfl⟩
  rw [sbcResult_eq, sbcDecimalValue_eq, subOverflow_ofInt, ← apply_ite (BitVec.ofInt 8)]
  rfl

/-- Settles O28: C and V are those of the binary difference in both modes; the value is exact in each. -/
theorem sbcSubtractsExactly : Obligations.SbcSubtractsExactly := by
  unfold Obligations.SbcSubtractsExactly
  intro s op m borrow
  refine ⟨_, exec_sbc op s (sbcResult_eq ..), decide_eq_true_iff.trans (sbcDiff_nonneg_iff s.a m s.flags.c),
    subOverflow_sbcDiff_iff s.a m s.flags.c, fun hd => ?binary, fun hd ha hm => ?decimal⟩
  case binary =>
    rw [hd]
    exact ofInt_sbcDiff_toNat s.a m s.flags.c
  case decimal =>
    rw [hd]
    exact sbcDecimalValue_exact s.a m s.flags.c ha hm

end Sys2Proof.AluProofs
end

section
/-! PROOFS. Shifts, rotates and the bit operations of page 0 (44_shift_bitops.md R210 to R215): the results on numbers
and bit by bit, what each instruction completes with, then one use of it per instruction. -/

namespace Sys2Proof.Machine

open Sys2Proof.Spec

/-! The shifted byte and the bit shifted out, on numbers. -/

theorem byte_getLsbD_zero (v : Byte) : v.getLsbD 0 = decide (v.toNat % 2 = 1) :=
  Nat.testBit_zero v.toNat

theorem byte_shiftLeft_one (v : Byte) : v <<< 1 = BitVec.ofNat 8 (2 * v.toNat) := by
  rw [← BitVec.toNat_inj, BitVec.toNat_shiftLeft, BitVec.toNat_ofNat, Nat.shiftLeft_eq, Nat.mul_comm]

theorem byte_ushiftRight_one (v : Byte) : v >>> 1 = BitVec.ofNat 8 (v.toNat / 2) := by
  have hv := v.isLt
  rw [← BitVec.toNat_inj, BitVec.toNat_ushiftRight, BitVec.toNat_ofNat, Nat.shiftRight_one]
  omega

theorem aslResult_eq (v : Byte) :
    aslResult v = { value := BitVec.ofNat 8 (2 * v.toNat), carry := decide (128 ≤ v.toNat) } := by
  rw [aslResult, byte_shiftLeft_one, byte_getLsbD_seven]

theorem lsrResult_eq (v : Byte) :
    lsrResult v = { value := BitVec.ofNat 8 (v.toNat / 2), carry := decide (v.toNat % 2 = 1) } := by
  rw [lsrResult, byte_ushiftRight_one, byte_getLsbD_zero]

/-- A bit that is 0 takes the incoming C by an addition. -/
theorem or_carry_eq_add {v : Byte} {k : Nat} (hfree : v.getLsbD k = false) (c : Bool) :
    v ||| (if c then BitVec.twoPow 8 k else 0) = v + BitVec.ofNat 8 (2 ^ k * c.toNat) := by
  cases c with
  | false => simp
  | true =>
    have hdisjoint : v &&& BitVec.twoPow 8 k = 0 := by
      rw [BitVec.and_twoPow, hfree]
      rfl
    have hcarry : BitVec.twoPow 8 k = BitVec.ofNat 8 (2 ^ k) := BitVec.eq_of_toNat_eq (BitVec.toNat_twoPow 8 k)
    rw [if_pos rfl, ← BitVec.add_eq_or_of_and_eq_zero _ _ hdisjoint, hcarry, Bool.toNat_true, Nat.mul_one]

/-- C enters at bit 0 (44 R212). -/
theorem rolResult_eq (c : Bool) (v : Byte) :
    rolResult c v = { value := BitVec.ofNat 8 (2 * v.toNat + c.toNat), carry := decide (128 ≤ v.toNat) } := by
  have hfree : (v <<< 1).getLsbD 0 = false := by simp
  have hvalue : v <<< 1 ||| (if c then 0x01 else 0x00) = BitVec.ofNat 8 (2 * v.toNat + c.toNat) := by
    rw [BitVec.ofNat_add, ← byte_shiftLeft_one, ← Nat.one_mul c.toNat]
    exact or_carry_eq_add hfree c
  rw [rolResult, hvalue, byte_getLsbD_seven]

/-- C enters at bit 7 (44 R213). -/
theorem rorResult_eq (c : Bool) (v : Byte) :
    rorResult c v = { value := BitVec.ofNat 8 (v.toNat / 2 + 128 * c.toNat), carry := decide (v.toNat % 2 = 1) } := by
  have hfree : (v >>> 1).getLsbD 7 = false := by simp
  have hvalue : v >>> 1 ||| (if c then 0x80 else 0x00) = BitVec.ofNat 8 (v.toNat / 2 + 128 * c.toNat) := by
    rw [BitVec.ofNat_add, ← byte_ushiftRight_one]
    exact or_carry_eq_add hfree c
  rw [rorResult, hvalue, byte_getLsbD_zero]

/-! What a shift completes with, on A and on memory, from its result known as `res`. -/

theorem complete_shift_acc (i : Instr) {r res : ShiftResult} (hres : r = res) (s : State) :
    complete i 0 .cont (writeRmw .acc r.value (setFlags (s.flags.withC r.carry) (fetchOperands i s)))
      = .next { after i 0 s with a := res.value, flags := znOf { s.flags with c := res.carry } res.value } := by
  rw [← hres]
  exact complete_setA_setFlags i 0 r.value (s.flags.withC r.carry) s

theorem complete_shift_mem (i : Instr) (extra : Nat) (ea : Ea) {r res : ShiftResult} (hres : r = res) (s : State) :
    complete i extra .cont (writeRmw (.mem ea) r.value (setFlags (s.flags.withC r.carry) (fetchOperands i s)))
      = .next { after i extra s with
          mem := s.mem.write (resolveEa ea s).addr.toNat res.value,
          flags := znOf { s.flags with c := res.carry } res.value } := by
  rw [← hres, after_eq_fetchOperands, ← Flags.withZN_eq_znOf, writeRmw_mem]
  rfl

/-! The bit operations. -/

theorem getLsbD_bitMask {b k : Nat} (hk : k < 8) : (bitMask b).getLsbD k = decide (k = b) := by
  have hmask : bitMask b = BitVec.twoPow 8 b := rfl
  rw [hmask, BitVec.getLsbD_twoPow, ← Bool.decide_and, decide_eq_decide]
  omega

theorem getLsbD_resetBit {b k : Nat} (hk : k < 8) (v : Byte) :
    (resetBit b v).getLsbD k = if k = b then false else v.getLsbD k := by
  rw [resetBit, BitVec.getLsbD_and, BitVec.getLsbD_not, getLsbD_bitMask hk]
  split <;> simp [*]

theorem getLsbD_setBit {b k : Nat} (hk : k < 8) (v : Byte) :
    (setBit b v).getLsbD k = if k = b then true else v.getLsbD k := by
  rw [setBit, BitVec.getLsbD_or, getLsbD_bitMask hk]
  split <;> simp [*]

theorem complete_modifyZeroPage (i : Instr) (f : Byte → Byte) (zp8 : Byte) (s : State) :
    complete i 0 .cont (modifyZeroPage f zp8 (fetchOperands i s))
      = .next { after i 0 s with mem := s.mem.write zp8.toNat (f (s.mem.read zp8.toNat)) } := by
  rw [modifyZeroPage, complete_memWrite, memRead, zext16_toNat]
  rfl

section BitNumber

variable {b : Nat} (hb : b < 8) (zp8 : Byte) (s : State)

include hb

theorem exec_rmb : exec (rmb b zp8) s = .next
    { after (rmb b zp8) 0 s with mem := s.mem.write zp8.toNat (resetBit b (s.mem.read zp8.toNat)) } := by
  rw [← complete_modifyZeroPage]
  interval_cases b <;> rfl

theorem exec_smb : exec (smb b zp8) s = .next
    { after (smb b zp8) 0 s with mem := s.mem.write zp8.toNat (setBit b (s.mem.read zp8.toNat)) } := by
  rw [← complete_modifyZeroPage]
  interval_cases b <;> rfl

theorem storeAddrs_rmb : storeAddrs (rmb b zp8) s = [zext16 zp8] := by
  interval_cases b <;> rfl

theorem storeAddrs_smb : storeAddrs (smb b zp8) s = [zext16 zp8] := by
  interval_cases b <;> rfl

theorem rows_rmb : Rows (rmb b zp8) [(.zeroPage, BitVec.ofNat 8 (0x07 + 0x10 * b))] := by
  interval_cases b <;> exact rows_single rfl rfl rfl

theorem rows_smb : Rows (smb b zp8) [(.zeroPage, BitVec.ofNat 8 (0x87 + 0x10 * b))] := by
  interval_cases b <;> exact rows_single rfl rfl rfl

theorem baseCycles_rmb_smb (p : Params) : (rmb b zp8).baseCycles p = 5 ∧ (smb b zp8).baseCycles p = 5 := by
  interval_cases b <;> exact ⟨rfl, rfl⟩

end BitNumber

end Sys2Proof.Machine

namespace Sys2Proof.ShiftProofs

open Sys2Proof.Machine Sys2Proof.Spec

/-- Settles O34: each completes with C of its result and the value written back, both known on numbers; the memory
forms store at one address. -/
theorem shiftsAndRotates : Obligations.ShiftsAndRotates := by
  unfold Obligations.ShiftsAndRotates
  intro s ea addr m c
  refine ⟨complete_shift_acc (.asl .acc) (aslResult_eq s.a) s,
    complete_shift_mem (.asl (.mem ea)) _ ea (aslResult_eq (s.mem.read addr)) s,
    complete_shift_acc (.lsr .acc) (lsrResult_eq s.a) s,
    complete_shift_mem (.lsr (.mem ea)) _ ea (lsrResult_eq (s.mem.read addr)) s,
    complete_shift_acc (.rol .acc) (rolResult_eq s.flags.c s.a) s,
    complete_shift_mem (.rol (.mem ea)) _ ea (rolResult_eq s.flags.c (s.mem.read addr)) s,
    complete_shift_acc (.ror .acc) (rorResult_eq s.flags.c s.a) s,
    complete_shift_mem (.ror (.mem ea)) _ ea (rorResult_eq s.flags.c (s.mem.read addr)) s,
    ?frame, fun op => ?rows, fun p w k hk => ?cycles⟩
  case frame =>
    intro i t hi h p hp
    have hk : storeAddrs i s = [(resolveEa ea s).addr] := by fin_cases hi <;> rfl
    exact memRead_of_exec_single hk h hp
  case rows =>
    exact ⟨rows_of_opcodeFor rfl rfl rfl rfl, rows_of_opcodeFor rfl rfl rfl rfl, rows_of_opcodeFor rfl rfl rfl rfl,
      rows_of_opcodeFor rfl rfl rfl rfl⟩
  case cycles => fin_cases hk <;> rfl

/-- Settles O35: each bit number names one instruction, which completes with one write of memory; the written byte is
known bit by bit. -/
theorem zeroPageBitResetAndSet : Obligations.ZeroPageBitResetAndSet := by
  unfold Obligations.ZeroPageBitResetAndSet
  intro s zp8 b hb m
  refine ⟨⟨resetBit b m, exec_rmb hb zp8 s, fun k hk => getLsbD_resetBit hk m⟩,
    ⟨setBit b m, exec_smb hb zp8 s, fun k hk => getLsbD_setBit hk m⟩, ?frame, rows_rmb hb zp8, rows_smb hb zp8,
    baseCycles_rmb_smb hb zp8⟩
  case frame =>
    intro i t hi h p hp
    have hk : storeAddrs i s = [zext16 zp8] := by
      fin_cases hi
      · exact storeAddrs_rmb hb zp8 s
      · exact storeAddrs_smb hb zp8 s
    exact memRead_of_exec_single hk h hp

end Sys2Proof.ShiftProofs
end

section
/-! PROOFS. Branches and jumps (45_control.md R230 to R243): a branch ends as its condition says, with its target and
page on numbers, and a jump loads a word known on numbers; then one use of it per instruction. -/

namespace Sys2Proof.Machine

open Sys2Proof.Spec

/-! What a step that loads PC last leaves. -/

theorem complete_fetchOperands (i : Instr) (extra : Nat) (s : State) :
    complete i extra .cont (fetchOperands i s) = .next (after i extra s) := by
  rw [after_eq_fetchOperands]
  rfl

theorem complete_setPc (i : Instr) (extra : Nat) (w : Word) (s : State) :
    complete i extra .cont (setPc w (fetchOperands i s)) = .next { after i extra s with pc := w } := by
  rw [after_eq_fetchOperands]
  rfl

/-! Branches. -/

/-- The displacement is added as a signed number, modulo 65536 (41 R112). -/
theorem relTarget_eq_ofInt (rel8 : Byte) (pcNext : Word) :
    relTarget rel8 pcNext = BitVec.ofInt 16 ((pcNext.toNat : Int) + rel8.toInt) := by
  rw [BitVec.ofInt_add, BitVec.ofInt_natCast, BitVec.ofNat_toNat, BitVec.setWidth_eq]
  rfl

theorem hiByte_eq_iff (v w : Word) : hiByte v = hiByte w ↔ v.toNat / 256 = w.toNat / 256 := by
  rw [← BitVec.toNat_inj, hiByte_toNat, hiByte_toNat]

/-- An instruction that completes as a branch to its displacement ends as a branch does (45 R230). -/
theorem branchEnds_of_completeBranch {i : Instr} {rel8 : Byte} {taken : Bool} {s : State}
    (h : exec i s = completeBranch i taken (relTarget rel8 (fetchOperands i s).pc) (fetchOperands i s)) :
    BranchEnds i rel8 taken s := by
  have hpc : (after i 0 s).pc = (fetchOperands i s).pc := by rw [after_eq_fetchOperands]
  rw [BranchEnds, h, hpc, ← relTarget_eq_ofInt]
  cases taken with
  | false => exact complete_fetchOperands i 0 s
  | true =>
    simp only [completeBranch_true, complete_setPc, hiByte_eq_iff, if_true]

/-- A branch on a bit tests the byte of page 0 (45 R231). -/
theorem branchEnds_of_branchOnBit {i : Instr} {b : Nat} {want : Bool} {zp8 rel8 : Byte} {s : State}
    (h : exec i s = branchOnBit i b want zp8 rel8 (fetchOperands i s)) :
    BranchEnds i rel8 ((s.mem.read zp8.toNat).getLsbD b == want) s := by
  rw [branchOnBit, memRead_fetchOperands, memRead, zext16_toNat] at h
  exact branchEnds_of_completeBranch h

section BitNumber

variable {b : Nat} (hb : b < 8) (zp8 rel8 : Byte)

include hb

theorem branchEnds_bbr (s : State) :
    BranchEnds (bbr b zp8 rel8) rel8 (!(s.mem.read zp8.toNat).getLsbD b) s := by
  rw [← beq_false]
  apply branchEnds_of_branchOnBit
  interval_cases b <;> rfl

theorem branchEnds_bbs (s : State) :
    BranchEnds (bbs b zp8 rel8) rel8 ((s.mem.read zp8.toNat).getLsbD b) s := by
  rw [← beq_true ((s.mem.read zp8.toNat).getLsbD b)]
  apply branchEnds_of_branchOnBit
  interval_cases b <;> rfl

theorem length_bbr_bbs : (bbr b zp8 rel8).length = 3 ∧ (bbs b zp8 rel8).length = 3 := by
  interval_cases b <;> exact ⟨rfl, rfl⟩

theorem rows_bbr : Rows (bbr b zp8 rel8) [(.zeroPage, BitVec.ofNat 8 (0x0F + 0x10 * b))] := by
  interval_cases b <;> exact rows_single rfl rfl rfl

theorem rows_bbs : Rows (bbs b zp8 rel8) [(.zeroPage, BitVec.ofNat 8 (0x8F + 0x10 * b))] := by
  interval_cases b <;> exact rows_single rfl rfl rfl

theorem baseCycles_bbr_bbs (p : Params) :
    (bbr b zp8 rel8).baseCycles p = 5 ∧ (bbs b zp8 rel8).baseCycles p = 5 := by
  interval_cases b <;> exact ⟨rfl, rfl⟩

end BitNumber

/-! Words, and words read from memory, on numbers. -/

theorem word_add_one (n : Nat) : BitVec.ofNat 16 n + 1 = BitVec.ofNat 16 (n + 1) := (BitVec.ofNat_add n 1).symm

theorem joinBytes_eq_ofNat (lo hi : Byte) : joinBytes lo hi = BitVec.ofNat 16 (lo.toNat + 256 * hi.toNat) :=
  word_eq_ofNat (joinBytes_toNat lo hi)

/-- Both addresses of a word wrap at 65536, from an address known modulo 65536 (20 R46). -/
theorem memRead16_eq_ofNat {p : Word} {n : Nat} (h : p.toNat = n % 65536) (s : State) :
    memRead16 s p = BitVec.ofNat 16
      ((s.mem.read (n % 65536)).toNat + 256 * (s.mem.read ((n + 1) % 65536)).toNat) := by
  apply word_eq_ofNat
  rw [(MemoryProofs.sixteenBitPointerReads s).1 p, h, Nat.mod_add_mod]

end Sys2Proof.Machine

namespace Sys2Proof.ControlProofs

open Sys2Proof.Machine Sys2Proof.Spec

/-- Settles O36: each completes as a branch on its flag. -/
theorem branchesTestTheirFlag : Obligations.BranchesTestTheirFlag := by
  unfold Obligations.BranchesTestTheirFlag
  intro s rel8
  simp only [Bool.decide_eq_true, Bool.decide_eq_false, decide_true]
  refine ⟨branchEnds_of_completeBranch rfl, branchEnds_of_completeBranch rfl, branchEnds_of_completeBranch rfl,
    branchEnds_of_completeBranch rfl, branchEnds_of_completeBranch rfl, branchEnds_of_completeBranch rfl,
    branchEnds_of_completeBranch rfl, branchEnds_of_completeBranch rfl, branchEnds_of_completeBranch rfl,
    rows_single rfl rfl rfl, rows_single rfl rfl rfl, rows_single rfl rfl rfl, rows_single rfl rfl rfl,
    rows_single rfl rfl rfl, rows_single rfl rfl rfl, rows_single rfl rfl rfl, rows_single rfl rfl rfl,
    rows_single rfl rfl rfl, fun p i hi => ?cycles⟩
  case cycles => fin_cases hi <;> rfl

/-- Settles O37: each bit number names one instruction, which completes as a branch on its bit. -/
theorem bitBranchesTestTheirBit : Obligations.BitBranchesTestTheirBit := by
  unfold Obligations.BitBranchesTestTheirBit
  intro s zp8 rel8 b hb v
  obtain ⟨hbbr, hbbs⟩ := length_bbr_bbs hb zp8 rel8
  exact ⟨branchEnds_bbr hb zp8 rel8 s, branchEnds_bbs hb zp8 rel8 s, hbbr, hbbs, rows_bbr hb zp8 rel8,
    rows_bbs hb zp8 rel8, baseCycles_bbr_bbs hb zp8 rel8⟩

/-- Settles O38: each form loads PC last, with its operand or with a word that memory holds. -/
theorem jumpTargetsOfTheThreeForms : Obligations.JumpTargetsOfTheThreeForms := by
  unfold Obligations.JumpTargetsOfTheThreeForms
  intro s w at'
  have hind : memRead16 s w = BitVec.ofNat 16 (at' w.toNat) :=
    memRead16_eq_ofNat (Nat.mod_eq_of_lt w.isLt).symm s
  have hsum : (w + zext16 s.x).toNat = (w.toNat + s.x.toNat) % 65536 := by rw [BitVec.toNat_add, zext16_toNat]
  have hindX : memRead16 s (w + zext16 s.x) = BitVec.ofNat 16 (at' (w.toNat + s.x.toNat)) := memRead16_eq_ofNat hsum s
  refine ⟨complete_setPc (.jmp (.abs w)) 0 w s, ?ind, ?indX, fun op => rows_of_opcodeFor rfl rfl rfl rfl,
    fun p => ⟨rfl, rfl, rfl⟩⟩
  case ind => rw [← hind]; exact complete_setPc (.jmp (.ind w)) 0 (memRead16 s w) s
  case indX => rw [← hindX]; exact complete_setPc (.jmp (.indX w)) 0 (memRead16 s (w + zext16 s.x)) s

end Sys2Proof.ControlProofs
end

section
/-! PROOFS. Calls, returns and BRK (45_control.md R244 to R248; 60_exceptions.md R295, R296): the stack on numbers for
several bytes in a row, the bytes left alone, and what a return finds straight after its entry. -/

namespace Sys2Proof.Machine

open Sys2Proof.Spec

/-! The stack on numbers (20 R50). -/

theorem stackAt_zero (s : State) : stackAt s 0 = 256 + s.sp.toNat := by
  rw [stackAt, Nat.add_zero, Nat.mod_eq_of_lt s.sp.isLt]

theorem stackAt_afterPull (s : State) (k : Nat) : stackAt (afterPull s) k = stackAt s (k + 1) := by
  simp only [stackAt, afterPull_sp, byte_add_one, BitVec.toNat_ofNat]
  omega

theorem stackAt_push (v : Byte) (s : State) (k : Nat) : stackAt (push v s) (k + 1) = stackAt s k := by
  simp only [stackAt, push_sp, byte_sub_one_eq_ofNat, BitVec.toNat_ofNat]
  omega

theorem pushWord_eq_ofNat {w : Word} {n : Nat} (h : w.toNat = n) (s : State) :
    pushWord w s =
      { s with
        sp := BitVec.ofNat 8 (s.sp.toNat + 254),
        mem := (s.mem.write (stackAt s 0) (BitVec.ofNat 8 (n / 256))).write (stackAt s 255) (BitVec.ofNat 8 n) } := by
  have hbelow : 256 + (BitVec.ofNat 8 (s.sp.toNat + 255)).toNat = stackAt s 255 := rfl
  have hsp : BitVec.ofNat 8 ((BitVec.ofNat 8 (s.sp.toNat + 255)).toNat + 255) = BitVec.ofNat 8 (s.sp.toNat + 254) := by
    bv_omega
  rw [pushWord, push_eq_ofNat, push_eq_ofNat, ← stackAt_zero, hbelow, hsp, ← h, ← hiByte_eq_ofNat, ← loByte_eq_ofNat]

/-- A byte pushed after a word lies below it. -/
theorem push_pushWord_eq_ofNat (v : Byte) {w : Word} {n : Nat} (h : w.toNat = n) (s : State) :
    push v (pushWord w s) =
      { s with
        sp := BitVec.ofNat 8 (s.sp.toNat + 253),
        mem := ((s.mem.write (stackAt s 0) (BitVec.ofNat 8 (n / 256))).write (stackAt s 255) (BitVec.ofNat 8 n)).write
          (stackAt s 254) v } := by
  have hbelow : 256 + (BitVec.ofNat 8 (s.sp.toNat + 254)).toNat = stackAt s 254 := rfl
  have hsp : BitVec.ofNat 8 ((BitVec.ofNat 8 (s.sp.toNat + 254)).toNat + 255) = BitVec.ofNat 8 (s.sp.toNat + 253) := by
    bv_omega
  rw [pushWord_eq_ofNat h, push_eq_ofNat, hbelow, hsp]

theorem pulledWord_eq_ofNat (s : State) :
    pulledWord s = BitVec.ofNat 16
      ((s.mem.read (stackAt s 1)).toNat + 256 * (s.mem.read (stackAt s 2)).toNat) := by
  rw [pulledWord, joinBytes_eq_ofNat, pulled_eq_read, pulled_eq_read, stackAt_afterPull, afterPull_mem]

/-! The bytes that an instruction storing on the stack leaves alone. -/

theorem memRead_of_exec_stackAt {i : Instr} {s t : State} {ks : List Nat}
    (hks : (storeAddrs i s).map BitVec.toNat = ks.map (stackAt s)) (h : exec i s = .next t) {p : Word}
    (hp : ∀ k ∈ ks, p.toNat ≠ stackAt s k) : memRead t p = memRead s p := by
  refine (exec_stored h).read_other fun hmem => ?_
  have hstored : p.toNat ∈ ks.map (stackAt s) := hks ▸ List.mem_map_of_mem hmem
  obtain ⟨k, hk, hkp⟩ := List.mem_map.mp hstored
  exact hp k hk hkp.symm

/-- The first free stack byte and the two below it, as numbers; each wraps in page 1. -/
theorem stackAddrs_toNat (s : State) :
    [stackAddr s.sp, stackAddr (s.sp - 1), stackAddr (s.sp - 2)].map BitVec.toNat = [0, 255, 254].map (stackAt s) := by
  have htwo : s.sp - 2 = s.sp + BitVec.ofNat 8 254 := by bv_omega
  simp only [List.map_cons, List.map_nil, stackAt_zero, stackAddr_toNat, byte_sub_one, htwo]
  rfl

theorem storeAddrs_jsr_toNat (addr : Word) (s : State) :
    (storeAddrs (.jsr addr) s).map BitVec.toNat = [0, 255].map (stackAt s) :=
  congrArg (List.take 2) (stackAddrs_toNat s)

theorem storeAddrs_brk_toNat (s : State) :
    (storeAddrs .brk s).map BitVec.toNat =
      (if s.params.brkMode = .vectored then [0, 255, 254] else []).map (stackAt s) := by
  rw [storeAddrs_brk]
  split
  · exact stackAddrs_toNat s
  · rfl

/-! What each instruction leaves, from the state `u` that its pushes give. -/

theorem pushWord_fetchOperands (w : Word) (i : Instr) (s : State) :
    pushWord w (fetchOperands i s) = { fetchOperands i s with sp := (pushWord w s).sp, mem := (pushWord w s).mem } := by
  simp only [pushWord, push_eq, fetchOperands_sp, fetchOperands_mem]

theorem push_pushWord_fetchOperands (v : Byte) (w : Word) (i : Instr) (s : State) :
    push v (pushWord w (fetchOperands i s)) =
      { fetchOperands i s with sp := (push v (pushWord w s)).sp, mem := (push v (pushWord w s)).mem } := by
  rw [pushWord_fetchOperands]
  rfl

/-- The address of JSR's last byte is PC_start + 2 (45 R244). -/
theorem exec_jsr (addr : Word) {s u : State} (hu : pushWord (s.pc + 2) s = u) :
    exec (.jsr addr) s = .next { after (.jsr addr) 0 s with pc := addr, sp := u.sp, mem := u.mem } := by
  have hlast : s.pc + 3 - 1 = s.pc + 2 := by bv_omega
  change complete (.jsr addr) 0 .cont (setPc addr (pushWord (s.pc + 3 - 1) (fetchOperands (.jsr addr) s))) = _
  rw [after_eq_fetchOperands, hlast, pushWord_fetchOperands, hu]
  rfl

theorem exec_rts (s : State) :
    exec .rts s = .next { after .rts 0 s with pc := pulledWord s + 1, sp := s.sp + 1 + 1 } := by
  rw [after_eq_fetchOperands]
  rfl

theorem exec_rti (s : State) :
    exec .rti s = .next
      { after .rti 0 s with
        pc := pulledWord (afterPull s), sp := s.sp + 1 + 1 + 1, flags := Flags.unpack (pulled s) } := by
  change complete .rti 0 .cont (returnFromBrk (fetchOperands .rti s)) = _
  rw [returnFromBrk_eq, after_eq_fetchOperands]
  rfl

theorem exec_brk_terminal {s : State} (h : s.params.brkMode = .terminal) :
    exec .brk s = .next { after .brk 0 s with outcome := .finished } := by
  change execBrk s = _
  rw [execBrk, fetchOperands_params, h, after_eq_fetchOperands]
  rfl

theorem exec_brk_vectored {s u : State} (h : s.params.brkMode = .vectored)
    (hu : push s.flags.pushedByte (pushWord (s.pc + 2) s) = u) :
    exec .brk s = .next
      { after .brk 0 s with
        pc := memRead16 u brkVector, sp := u.sp, mem := u.mem, flags := { s.flags with i := true, d := false } } := by
  change execBrk s = _
  rw [execBrk, fetchOperands_params, h, after_eq_fetchOperands, ← hu, enterBrk_eq, push_pushWord_fetchOperands]
  rfl

/-! A return straight after its entry. -/

/-- The pushed byte is the packed byte of the flags with B set; bit 5 is 1 in any case (10 R19, R23). -/
theorem Flags.pushedByte_eq_pack (f : Flags) : f.pushedByte = Flags.pack { f with b := true } := by
  apply BitVec.eq_of_getLsbD_eq
  intro k hk
  rw [Flags.pushedByte, BitVec.getLsbD_or, Flags.pack_getLsbD, Flags.pack_getLsbD]
  interval_cases k <;> simp [pBit5]

theorem Flags.unpack_pushedByte (f : Flags) : Flags.unpack f.pushedByte = { f with b := true } := by
  rw [Flags.pushedByte_eq_pack, Flags.unpack_pack]

/-- A byte pushed and pulled again leaves the word above it to be pulled. -/
theorem pulledWord_afterPull_push (v : Byte) (s : State) : pulledWord (afterPull (push v s)) = pulledWord s := by
  have hlow : stackAt s 1 ≠ 256 + s.sp.toNat := by simp only [stackAt]; omega
  have hhigh : stackAt s 2 ≠ 256 + s.sp.toNat := by simp only [stackAt]; omega
  simp only [pulledWord_eq_ofNat, stackAt_afterPull, stackAt_push, afterPull_mem, push_mem, stackAddr_toNat,
    Memory.read_write_other _ v hlow, Memory.read_write_other _ v hhigh]

/-- A pull reads S and memory alone. -/
theorem pulled_congr {s t : State} (hsp : t.sp = s.sp) (hmem : t.mem = s.mem) : pulled t = pulled s := by
  rw [pulled, pulled, memRead, memRead, hsp, hmem]

theorem pulledWord_congr {s t : State} (hsp : t.sp = s.sp) (hmem : t.mem = s.mem) : pulledWord t = pulledWord s := by
  have hsp' : (afterPull t).sp = (afterPull s).sp := congrArg (· + 1) hsp
  rw [pulledWord, pulledWord, pulled_congr hsp hmem, pulled_congr hsp' hmem]

end Sys2Proof.Machine

namespace Sys2Proof.ControlProofs

open Sys2Proof.Machine Sys2Proof.Spec

/-- Settles O39: a word pushed and a word pulled, on numbers; JSR stores at two stack addresses. -/
theorem jsrPushesAndRtsReturns : Obligations.JsrPushesAndRtsReturns := by
  unfold Obligations.JsrPushesAndRtsReturns
  intro s addr ret
  have hret : (s.pc + 2).toNat = ret := BitVec.toNat_add s.pc 2
  refine ⟨exec_jsr addr (pushWord_eq_ofNat hret s), ?rts, fun t h p hhigh hlow => ?frame, rows_single rfl rfl rfl,
    rows_single rfl rfl rfl, fun p => ⟨rfl, rfl⟩⟩
  case rts =>
    have hsp : s.sp + 1 + 1 = BitVec.ofNat 8 (s.sp.toNat + 2) := by bv_omega
    rw [exec_rts, hsp, pulledWord_eq_ofNat, word_add_one]
  case frame => exact memRead_of_exec_stackAt (storeAddrs_jsr_toNat addr s) h (by simp [hhigh, hlow])

/-- Settles O40: the terminal mode takes its time and its byte; the vectored mode pushes three bytes, on numbers, and
reads the vector behind them. -/
theorem brkEndsTheRunOrEntersThroughTheVector : Obligations.BrkEndsTheRunOrEntersThroughTheVector := by
  unfold Obligations.BrkEndsTheRunOrEntersThroughTheVector
  intro s ret m
  have hret : (s.pc + 2).toNat = ret := BitVec.toNat_add s.pc 2
  refine ⟨exec_brk_terminal, fun hvec => ?vectored, fun t h p hp => ?frame, rows_single rfl rfl rfl, fun p => rfl⟩
  case vectored =>
    have hvector : brkVector.toNat = 0xFFFE % 65536 := rfl
    rw [exec_brk_vectored hvec (push_pushWord_eq_ofNat s.flags.pushedByte hret s), memRead16_eq_ofNat hvector]
    rfl
  case frame =>
    refine memRead_of_exec_stackAt (storeAddrs_brk_toNat s) h ?_
    rcases hp with hterm | ⟨hhigh, hlow, hstatus⟩
    · simp [hterm]
    · split <;> simp [hhigh, hlow, hstatus]

/-- Settles O41: three pulls on numbers. -/
theorem rtiRestoresStatusAndPc : Obligations.RtiRestoresStatusAndPc := by
  unfold Obligations.RtiRestoresStatusAndPc
  intro s p
  have hsp : s.sp + 1 + 1 + 1 = BitVec.ofNat 8 (s.sp.toNat + 3) := by bv_omega
  refine ⟨?rti, rows_single rfl rfl rfl, fun p => rfl⟩
  case rti =>
    rw [exec_rti, hsp, pulledWord_eq_ofNat, stackAt_afterPull, stackAt_afterPull, pulled_eq_read, Flags.unpack_eq]
    rfl

/-- Settles O42: the return starts from the stack that the entry left, so it pulls what the entry pushed. -/
theorem returnsUndoCallsAndVectorEntries : Obligations.ReturnsUndoCallsAndVectorEntries := by
  unfold Obligations.ReturnsUndoCallsAndVectorEntries
  intro s addr hs
  have hword := pulledWord_pushWord hs (s.pc + 2)
  refine ⟨⟨_, _, exec_jsr addr rfl, exec_rts _, ?rtsPc, ?rtsSp, rfl, rfl, rfl, rfl⟩,
    fun hvec => ⟨_, _, exec_brk_vectored hvec rfl, exec_rti _, ?rtiPc, ?rtiSp, ?rtiFlags, rfl, rfl, rfl⟩⟩
  case rtsPc =>
    calc _
      _ = s.pc + 2 + 1 := congrArg (· + 1) ((pulledWord_congr rfl rfl).trans hword)
      _ = BitVec.ofNat 16 (s.pc.toNat + 3) := by bv_omega
  case rtsSp => exact afterPullWord_pushWord_sp (s.pc + 2) s
  case rtiPc =>
    calc _
      _ = pulledWord (afterPull (push s.flags.pushedByte (pushWord (s.pc + 2) s))) := pulledWord_congr rfl rfl
      _ = s.pc + 2 := (pulledWord_afterPull_push ..).trans hword
      _ = BitVec.ofNat 16 (s.pc.toNat + 2) := by bv_omega
  case rtiSp =>
    calc _
      _ = (pushWord (s.pc + 2) s).sp + 1 + 1 := congrArg (· + 1 + 1) (afterPull_push_sp s.flags.pushedByte _)
      _ = s.sp := afterPullWord_pushWord_sp (s.pc + 2) s
  case rtiFlags =>
    calc _
      _ = Flags.unpack (pulled (push s.flags.pushedByte (pushWord (s.pc + 2) s))) :=
        congrArg Flags.unpack (pulled_congr rfl rfl)
      _ = Flags.unpack s.flags.pushedByte := congrArg Flags.unpack (pulled_push (pushWord_wf hs _) _)
      _ = { s.flags with b := true } := Flags.unpack_pushedByte s.flags

end Sys2Proof.ControlProofs
end

section
/-! PROOFS. Flag instructions, NOP, halts, undefined values and debug opcodes (46_flags_misc.md R260 to R278): what a
step that returns its own outcome or emits a diagnostic leaves, and what a debug opcode's value decodes to. -/

namespace Sys2Proof.Machine

open Sys2Proof.Spec

/-- A step that only takes its bytes and its time, and returns `out` (40 R84, R85). -/
theorem complete_fetchOperands_outcome (i : Instr) (extra : Nat) (out : StepOutcome) (s : State) :
    complete i extra out (fetchOperands i s) = .next { after i extra s with outcome := out } := by
  rw [after_eq_fetchOperands]
  rfl

theorem complete_emit (i : Instr) (extra : Nat) (d : Diagnostic) (s : State) :
    complete i extra .cont (emit d (fetchOperands i s)) = .next { after i extra s with log := s.log ++ [d] } := by
  rw [after_eq_fetchOperands]
  rfl

/-- A register diagnostic made at PC_next shows PC on numbers. -/
theorem registerDiagnostic_fetchOperands (i : Instr) (s : State) :
    registerDiagnostic (fetchOperands i s) = registerDiagnostic (after i 0 s) := by
  rw [after_eq_fetchOperands]
  rfl

theorem exec_opRegdump (s : State) :
    exec .opRegdump s = .next
      { after .opRegdump 0 s with log := s.log ++ [registerDiagnostic (after .opRegdump 0 s)] } := by
  rw [← registerDiagnostic_fetchOperands]
  exact complete_emit .opRegdump 0 _ s

/-- A legal value of a debug opcode decodes to it (30 R72). -/
theorem decode_of_debugOpcode {dbg : DebugOpcodes} (hdbg : dbg.wf = true) (i : Instr) (htable : i.tableOpcode = none)
    {op : Byte} (hop : i.opcode dbg = some op) (rest : List Byte) :
    decode dbg (op :: (i.bytes ++ rest)) = .ok (i, rest) := by
  have hread := readFrom_of_debugInstr (debugInstr_of_opcode hdbg hop htable) 0 0
  have hdecode := EncodingProofs.decodeOfEncodeIsTheInstruction dbg i rest hdbg hread.wellFormed
  rwa [encode_of_opcode hop] at hdecode

end Sys2Proof.Machine

namespace Sys2Proof.MiscProofs

open Sys2Proof.Machine Sys2Proof.Spec

/-- Settles O45: the breakpoint returns Pause, a dump completes with one diagnostic, and an assigned value decodes to
its debug opcode. -/
theorem debugOpcodesPauseOrReport : Obligations.DebugOpcodesPauseOrReport := by
  unfold Obligations.DebugOpcodesPauseOrReport
  intro s pc' cycles
  exact ⟨complete_fetchOperands_outcome .opBreakpoint 0 .pause s, exec_opRegdump s,
    complete_emit .opMemdump 0 .memory s,
    fun dbg op rest hdbg => ⟨fun hop => decode_of_debugOpcode hdbg .opBreakpoint rfl hop rest,
      fun hop => decode_of_debugOpcode hdbg .opRegdump rfl hop rest,
      fun hop => decode_of_debugOpcode hdbg .opMemdump rfl hop rest⟩⟩

/-- Settles O43: a flag instruction completes with its flag written, NOP and the halts with nothing but their
outcome. -/
theorem flagInstructionsNopAndHalts : Obligations.FlagInstructionsNopAndHalts := by
  unfold Obligations.FlagInstructionsNopAndHalts
  intro s
  refine ⟨complete_setFlags .clc 0 _ s, complete_setFlags .sec 0 _ s, complete_setFlags .cld 0 _ s,
    complete_setFlags .sed 0 _ s, complete_setFlags .cli 0 _ s, complete_setFlags .sei 0 _ s,
    complete_setFlags .clv 0 _ s, complete_fetchOperands .nop 0 s, complete_fetchOperands_outcome .wai 0 .finished s,
    complete_fetchOperands_outcome .stp 0 .finished s, rows_single rfl rfl rfl, rows_single rfl rfl rfl,
    rows_single rfl rfl rfl, rows_single rfl rfl rfl, rows_single rfl rfl rfl, rows_single rfl rfl rfl,
    rows_single rfl rfl rfl, rows_single rfl rfl rfl, rows_single rfl rfl rfl, rows_single rfl rfl rfl,
    fun p i hi => ?twoCycles, fun p i hi => ?threeCycles⟩
  case twoCycles => fin_cases hi <;> exact ⟨rfl, rfl⟩
  case threeCycles => fin_cases hi <;> exact ⟨rfl, rfl⟩

/-- Settles O44: an undefined value takes its bytes and its time under one policy and records its fault under the
other. -/
theorem undefinedValuesUnderBothPolicies : Obligations.UndefinedValuesUnderBothPolicies := by
  unfold Obligations.UndefinedValuesUnderBothPolicies
  intro s form
  refine ⟨fun hnop => ?wdcNop, fun hfault => execUndefined_fault hfault form⟩
  case wdcNop => exact (execUndefined_wdcNop hnop form).trans (complete_fetchOperands (.undefined form) 0 s)

end Sys2Proof.MiscProofs
end

section
/-! PROOFS. How a step ends (40_pipeline.md R85; 60_exceptions.md R290 to R292): a completed instruction costs at most
two extra cycles, every instruction answers a next state, and none reads the controller state or the diagnostics. -/

namespace Sys2Proof.Machine

open Sys2Proof.Spec

/-! The cost of an instruction. -/

theorem crossPenalty_le_one (crossed : Bool) : crossPenalty crossed ≤ 1 := by cases crossed <;> decide

theorem decimalPenalty_le_one (d : Bool) : decimalPenalty d ≤ 1 := by cases d <;> decide

/-- A branch costs at most two extra cycles (45 R230). -/
theorem branchPenalty_le_two (taken : Bool) (target pcNext : Word) : branchPenalty taken target pcNext ≤ 2 := by
  unfold branchPenalty
  split_ifs <;> omega

/-- The answer completes `i` from a state with the cycles of `s`, with at most two extra ones. -/
def CompletesFrom (i : Instr) (s : State) (A : Answer) : Prop :=
  ∃ extra out u, A = complete i extra out u ∧ u.totalCycles = s.totalCycles ∧ u.params = s.params ∧ extra ≤ 2

theorem completeBranch_completesFrom (i : Instr) (taken : Bool) (target : Word) (s : State) :
    CompletesFrom i s (completeBranch i taken target s) := by
  refine ⟨_, _, _, rfl, ?_, ?_, branchPenalty_le_two taken target s.pc⟩ <;> cases taken <;> rfl

/-- A result written back costs no cycle of its own. -/
theorem writeRmw_completesFrom {i : Instr} {op : Rmw} {v : Byte} {out : StepOutcome} {s : State} {extra : Nat}
    (h : extra ≤ 2) : CompletesFrom i s (complete i extra out (writeRmw op v s)) := by
  refine ⟨_, _, _, rfl, ?_, ?_, h⟩ <;> cases op <;> rfl

theorem execJsr_completesFrom (addr : Word) (s : State) : CompletesFrom (.jsr addr) s (execJsr addr s) := by
  rw [execJsr, pushWord_eq]
  exact ⟨_, _, _, rfl, rfl, rfl, Nat.zero_le 2⟩

theorem execBrk_completesFrom (s : State) : CompletesFrom .brk s (execBrk s) := by
  rw [execBrk, fetchOperands_params]
  cases s.params.brkMode with
  | terminal => exact ⟨_, _, _, rfl, rfl, rfl, Nat.zero_le 2⟩
  | vectored =>
    rw [enterBrk_eq]
    exact ⟨_, _, _, rfl, rfl, rfl, Nat.zero_le 2⟩

/-- Extra cycles are those of a page cross, of decimal arithmetic and of a branch. -/
theorem exec_completesFrom {i : Instr} {s : State} (hi : i.mnemonic ≠ .undefined ∨ s.params.undefPolicy = .wdcNop) :
    CompletesFrom i s (exec i s) := by
  cases i with
  | bcc | bcs | beq | bne | bmi | bpl | bvc | bvs | bra | bbr0 | bbr1 | bbr2 | bbr3 | bbr4 | bbr5 | bbr6 | bbr7 | bbs0
  | bbs1 | bbs2 | bbs3 | bbs4 | bbs5 | bbs6 | bbs7 =>
    exact completeBranch_completesFrom _ _ _ (fetchOperands _ s)
  | adc | sbc =>
    exact ⟨_, _, _, rfl, rfl, rfl, Nat.add_le_add (decimalPenalty_le_one _) (crossPenalty_le_one _)⟩
  | lda | ldx | ldy | and | ora | eor | cmp | cpx | cpy | bit =>
    exact ⟨_, _, _, rfl, rfl, rfl, Nat.le_succ_of_le (crossPenalty_le_one _)⟩
  | inc | dec => exact writeRmw_completesFrom (s := fetchOperands _ s) (Nat.zero_le 2)
  | asl op | lsr op | rol op | ror op =>
    exact writeRmw_completesFrom (s := setFlags _ (fetchOperands _ s)) (Nat.le_succ_of_le (crossPenalty_le_one _))
  | jsr addr => exact execJsr_completesFrom addr s
  | brk => exact execBrk_completesFrom s
  | undefined form =>
    have hnop : s.params.undefPolicy = .wdcNop := hi.resolve_left fun h => h rfl
    exact ⟨_, _, _, execUndefined_wdcNop hnop form, rfl, rfl, Nat.zero_le 2⟩
  | _ => exact ⟨_, _, _, rfl, rfl, rfl, Nat.zero_le 2⟩

/-! What a step answers. -/

/-- No instruction faults or is refused (60 R291). -/
theorem exec_answers_next (i : Instr) (s : State) : ∃ t, exec i s = .next t := by
  rcases completes_or_faults i s with hi | ⟨hi, hpol⟩
  · obtain ⟨extra, out, u, h, -⟩ := exec_completesFrom hi
    exact ⟨_, h⟩
  · obtain ⟨form, rfl⟩ := mnemonic_eq_undefined_iff.mp hi
    exact ⟨_, execUndefined_fault hpol form⟩

/-- A CPU that has faulted takes no step (60 R292). -/
theorem step_of_faulted {s : State} {record : FaultRecord} (h : s.fault = some record) :
    step s = .fault (.instanceFaulted record) := by
  simp only [step, h]

/-- Any other CPU takes one. -/
theorem step_answers_next {s : State} (h : s.fault = none) : ∃ t, step s = .next t :=
  step_eq_exec h ▸ exec_answers_next (fetchInstr s) s

/-- The bare step leaves the controller state alone (60 R300). -/
theorem controller_of_step {s t : State} (h : step s = .next t) :
    t.runState = s.runState ∧ t.singleStep = s.singleStep := by
  obtain ⟨-, hexec⟩ := step_next h
  cases exec_effect hexec <;> exact ⟨rfl, rfl⟩

/-! What `State.architectural` leaves out is not read. -/

theorem completeBranch_architectural (i : Instr) (taken : Bool) (target : Word) (s : State) :
    mapNext State.architectural (completeBranch i taken target s.architectural) =
      mapNext State.architectural (completeBranch i taken target s) := by
  cases taken <;> rfl

theorem execBrk_architectural (s : State) :
    mapNext State.architectural (execBrk s.architectural) = mapNext State.architectural (execBrk s) := by
  have hmode : s.architectural.params = s.params := rfl
  rw [execBrk, execBrk, fetchOperands_params, fetchOperands_params, hmode]
  cases s.params.brkMode with
  | terminal => rfl
  | vectored =>
    rw [enterBrk_eq, enterBrk_eq]
    rfl

theorem execUndefined_architectural (form : UndefForm) (s : State) :
    mapNext State.architectural (execUndefined form s.architectural) =
      mapNext State.architectural (execUndefined form s) := by
  cases hpol : s.params.undefPolicy with
  | fault =>
    rw [execUndefined_fault hpol, execUndefined_fault (s := s.architectural) hpol]
    rfl
  | wdcNop =>
    rw [execUndefined_wdcNop hpol, execUndefined_wdcNop (s := s.architectural) hpol]
    rfl

/-- No instruction reads the controller state or the diagnostics. -/
theorem exec_architectural (i : Instr) (s : State) :
    mapNext State.architectural (exec i s.architectural) = mapNext State.architectural (exec i s) := by
  cases i with
  | bcc | bcs | beq | bne | bmi | bpl | bvc | bvs | bra | bbr0 | bbr1 | bbr2 | bbr3 | bbr4 | bbr5 | bbr6 | bbr7 | bbs0
  | bbs1 | bbs2 | bbs3 | bbs4 | bbs5 | bbs6 | bbs7 =>
    exact completeBranch_architectural _ _ _ (fetchOperands _ s)
  | inc op | dec op | asl op | lsr op | rol op | ror op => cases op <;> rfl
  | brk => exact execBrk_architectural s
  | undefined form => exact execUndefined_architectural form s
  | _ => rfl

theorem step_architectural (s : State) :
    mapNext State.architectural (step s.architectural) = mapNext State.architectural (step s) := by
  cases hs : s.fault with
  | some record => rw [step_of_faulted hs, step_of_faulted (s := s.architectural) hs]
  | none =>
    rw [step_eq_exec hs, step_eq_exec (s := s.architectural) hs]
    exact exec_architectural (fetchInstr s) s

theorem mapNext_eq_next {f : State → State} {A : Answer} {t : State} (h : mapNext f A = .next t) :
    ∃ v, A = .next v ∧ f v = t := by
  cases A with
  | next v => cases h; exact ⟨v, rfl, rfl⟩
  | fault | refused => cases h

/-- Architecturally equal states step to architecturally equal states. -/
theorem step_of_architectural_eq {s u t : State} (hu : u.architectural = s.architectural) (h : step s = .next t) :
    ∃ v, step u = .next v ∧ v.architectural = t.architectural := by
  apply mapNext_eq_next
  rw [← step_architectural u, hu, step_architectural s, h]
  rfl

/-- The invariant is about the architectural state. -/
theorem inv_architectural_iff (s : State) : s.architectural.Inv ↔ s.Inv :=
  ⟨fun ⟨hmem, hparams, hfault⟩ => ⟨hmem, hparams, hfault⟩, fun ⟨hmem, hparams, hfault⟩ => ⟨hmem, hparams, hfault⟩⟩

theorem inv_of_architectural_eq {s t : State} (h : t.architectural = s.architectural) (hs : s.Inv) : t.Inv := by
  rwa [← inv_architectural_iff, h, inv_architectural_iff]

/-! The undefined opcode value and the host operations that clear its record. -/

/-- A step at an undefined value that no debug opcode takes records it (60 R290, R292). -/
theorem step_at_undefined_opcode {s : State} (hs : s.fault = none) (hpol : s.params.undefPolicy = .fault)
    (hop : memRead s s.pc ∈ undefinedOpcodes) (hdbg : memRead s s.pc ∉ s.params.debugOpcodes.values) :
    step s = .next { s with fault := some (.unsupportedInstruction (memRead s s.pc) s.pc) } := by
  have hundef : (fetchInstr s).mnemonic = .undefined :=
    (mnemonic_decodeBytes_eq_undefined_iff ..).mpr ⟨hop, hdbg⟩
  obtain ⟨form, hfetch⟩ := mnemonic_eq_undefined_iff.mp hundef
  obtain ⟨hform, -⟩ := decodeBytes_undefined hfetch
  have hform : form.opcode = memRead s s.pc := hform
  rw [step_eq_exec hs, hfetch, ← hform]
  exact execUndefined_fault hpol form

/-- An accepted program load starts a new run. -/
theorem loadProgram_fault {bytes : List Byte} {base : Word} {s : State}
    (h : (loadProgram bytes base s).refusal = none) : (loadProgram bytes base s).state.fault = none := by
  unfold loadProgram at h ⊢
  split_ifs at h ⊢
  · cases h
  · rfl

/-- An accepted snapshot import starts a new run. -/
theorem fromState_fault {snap : Snapshot} {s : State} (h : (fromState snap s).refusal = none) :
    (fromState snap s).state.fault = none := by
  unfold fromState at h ⊢
  split at h
  · cases h
  · split_ifs at h ⊢
    · cases h
    · cases h
    · cases h
    · rfl

end Sys2Proof.Machine

namespace Sys2Proof.ExceptionProofs

open Sys2Proof.Machine Sys2Proof.Spec

/-- Settles O8: an instruction that completes adds its base cycles and at most two more. -/
theorem everyInstructionCompletes : Obligations.EveryInstructionCompletes := by
  unfold Obligations.EveryInstructionCompletes
  intro i s hi
  obtain ⟨extra, out, u, hexec, hcycles, hparams, hextra⟩ := exec_completesFrom hi
  rw [complete_eq, hcycles, hparams, ← Nat.add_assoc] at hexec
  exact ⟨_, extra, hexec, fault_of_exec hi hexec, hextra, rfl⟩

/-- Settles O46: the byte at PC decodes to its undefined value, whose record lasts until a new run starts. -/
theorem undefinedOpcodeFaultIsPreciseAndFinal : Obligations.UndefinedOpcodeFaultIsPreciseAndFinal := by
  unfold Obligations.UndefinedOpcodeFaultIsPreciseAndFinal
  intro s hs hpol hop hdbg record
  exact ⟨step_at_undefined_opcode hs hpol hop hdbg, step_of_faulted rfl, fun _ => rfl, fun _ _ => loadProgram_fault,
    fun _ => fromState_fault⟩

end Sys2Proof.ExceptionProofs
end

section
/-! PROOFS. The pause handler (60_exceptions.md R305): it passes over every text but three, reporting at each regs, and
stops at the first of the three or at the end of the commands. -/

namespace Sys2Proof.Machine

/-- The texts on which the handler resumes. -/
def isResume (command : String) : Bool := decide (command = "continue" ∨ command = "c" ∨ command = "step")

theorem isResume_iff {command : String} :
    isResume command = true ↔ command = "continue" ∨ command = "c" ∨ command = "step" := decide_eq_true_iff

theorem isResume_eq_false_iff {command : String} :
    isResume command = false ↔ command ≠ "continue" ∧ command ≠ "c" ∧ command ≠ "step" := by
  rw [← Bool.not_eq_true, isResume_iff, not_or, not_or]

/-- `k` register reports in the log. -/
def report (k : Nat) (s : State) : State := { s with log := s.log ++ List.replicate k (registerDiagnostic s) }

theorem report_zero (s : State) : report 0 s = s := by simp [report]

theorem report_emit (k : Nat) (s : State) : report k (emit (registerDiagnostic s) s) = report (k + 1) s := by
  simp [report, emit, registerDiagnostic, List.replicate_succ]

/-- One text that does not resume. -/
theorem pauseHandler_cons_of_not_resume {command : String} (h : isResume command = false) (rest : List String)
    (s : State) :
    pauseHandler (command :: rest) s =
      pauseHandler rest (if command = "regs" then emit (registerDiagnostic s) s else s) := by
  obtain ⟨hcontinue, hc, hstep⟩ := isResume_eq_false_iff.mp h
  rw [pauseHandler, if_neg (not_or.mpr ⟨hcontinue, hc⟩), if_neg hstep]
  split_ifs <;> rfl

/-- One text that resumes: step sets singleStep, the other two clear it. -/
theorem pauseHandler_cons_of_resume {command : String} (h : isResume command = true) (rest : List String) (s : State) :
    pauseHandler (command :: rest) s =
      { resumed := true, state := { s with singleStep := decide (command = "step") }, commands := rest } := by
  rcases isResume_iff.mp h with rfl | rfl | rfl <;> rfl

/-- Texts that do not resume leave one report for each regs. -/
theorem pauseHandler_append_of_not_resume {before : List String} (h : ∀ d ∈ before, isResume d = false)
    (rest : List String) (s : State) :
    pauseHandler (before ++ rest) s = pauseHandler rest (report (before.count "regs") s) := by
  induction before generalizing s with
  | nil => rw [List.count_nil, report_zero, List.nil_append]
  | cons command before ih =>
    obtain ⟨hcommand, hbefore⟩ := List.forall_mem_cons.mp h
    rw [List.cons_append, pauseHandler_cons_of_not_resume hcommand, ih hbefore]
    by_cases hregs : command = "regs"
    · rw [if_pos hregs, hregs, List.count_cons_self, report_emit]
    · rw [if_neg hregs, List.count_cons_of_ne hregs]

/-- How the handler ends: resumed by the first text that resumes, or detached without one. -/
inductive PauseEnds (s : State) : List String → PauseResult → Prop
  | resumes {before c rest} (hbefore : ∀ d ∈ before, isResume d = false) (hc : isResume c = true) :
      PauseEnds s (before ++ c :: rest)
        { resumed := true, commands := rest,
          state := { report (before.count "regs") s with singleStep := decide (c = "step") } }
  | detaches {commands} (hcommands : ∀ d ∈ commands, isResume d = false) :
      PauseEnds s commands { resumed := false, commands := [], state := report (commands.count "regs") s }

theorem pauseHandler_ends (commands : List String) (s : State) : PauseEnds s commands (pauseHandler commands s) := by
  cases hfind : commands.find? isResume with
  | none =>
    have hcommands : ∀ d ∈ commands, isResume d = false := by simpa using hfind
    have hend := pauseHandler_append_of_not_resume hcommands [] s
    rw [List.append_nil] at hend
    exact hend ▸ .detaches hcommands
  | some c =>
    obtain ⟨hc, before, rest, rfl, hbefore⟩ := List.find?_eq_some_iff_append.mp hfind
    have hbefore : ∀ d ∈ before, isResume d = false := by simpa using hbefore
    rw [pauseHandler_append_of_not_resume hbefore, pauseHandler_cons_of_resume hc]
    exact .resumes hbefore hc

/-- The handler changes singleStep and the diagnostics alone, and detaches only when no command is left. -/
theorem PauseEnds.frame {commands : List String} {s : State} {p : PauseResult} (h : PauseEnds s commands p) :
    p.state.architectural = s.architectural ∧ p.state.runState = s.runState ∧
      (p.resumed = false → p.commands = []) := by
  cases h with
  | resumes => exact ⟨rfl, rfl, (nomatch ·)⟩
  | detaches => exact ⟨rfl, rfl, fun _ => rfl⟩

end Sys2Proof.Machine

namespace Sys2Proof.ExceptionProofs

open Sys2Proof.Machine

/-- Settles O53: the handler ends in one of two ways, and each names the commands read and the reports made. -/
theorem pauseHandlerFollowsItsProtocol : Obligations.PauseHandlerFollowsItsProtocol := by
  unfold Obligations.PauseHandlerFollowsItsProtocol
  intro commands s p report
  have hend : PauseEnds s commands p := pauseHandler_ends commands s
  clear_value p
  simp only [← isResume_iff, ← isResume_eq_false_iff]
  cases hend with
  | @resumes before c rest hbefore hc =>
    exact ⟨iff_of_true rfl ⟨c, List.mem_append_cons_self, hc⟩, (nomatch ·),
      fun _ => ⟨before, c, rfl, hbefore, hc, rfl⟩⟩
  | detaches hcommands =>
    have hnone : ¬∃ c ∈ commands, isResume c = true := fun ⟨c, hmem, hc⟩ => by simp [hcommands c hmem] at hc
    exact ⟨iff_of_false (nomatch ·) hnone, fun _ => ⟨rfl, rfl⟩, (nomatch ·)⟩

end Sys2Proof.ExceptionProofs
end

section
/-! PROOFS. The controller's loop (60_exceptions.md R300 to R306): one equation per run state and answer of the step. -/

namespace Sys2Proof.Machine

theorem countedSteps_eq_one (s : State) : countedSteps s = 1 := by
  rw [countedSteps, pcBeyondMemory_eq_false]
  rfl

section Turn

variable {bound n : Nat} {commands : List String} {s t : State}

theorem runLoop_finished (hs : s.runState = .finished) :
    runLoop (bound + 1) n commands s = .returned n s commands := by
  simp only [runLoop, hs]

theorem runLoop_paused (hs : s.runState = .paused) :
    runLoop (bound + 1) n commands s =
      if (pauseHandler commands s).resumed then
        runLoop bound n (pauseHandler commands s).commands { (pauseHandler commands s).state with runState := .running }
      else .returned n (pauseHandler commands s).state (pauseHandler commands s).commands := by
  simp only [runLoop, hs]

/-- A CPU that has faulted reports its record again (log 12). -/
theorem runLoop_faulted {record : FaultRecord} (hs : s.runState = .running) (hfault : s.fault = some record) :
    runLoop (bound + 1) n commands s = .aborted record s commands := by
  simp only [runLoop, hs, step_of_faulted hfault]

/-- A step that faults aborts the run (60 R303). -/
theorem runLoop_faults {record : FaultRecord} (hs : s.runState = .running) (hstep : step s = .next t)
    (hfault : t.fault = some record) : runLoop (bound + 1) n commands s = .aborted record t commands := by
  simp only [runLoop, hs, hstep, hfault]

/-- A completed step outside single-step mode (60 R300 to R302). -/
theorem runLoop_completes (hs : s.runState = .running) (hstep : step s = .next t) (hfault : t.fault = none)
    (hsingle : s.singleStep = false) :
    runLoop (bound + 1) n commands s =
      runLoop bound (n + 1) commands { t with runState := runStateAfter t.outcome t.runState } := by
  obtain ⟨-, hsame⟩ := controller_of_step hstep
  simp only [runLoop, hs, hstep, hfault, countedSteps_eq_one, hsame, hsingle, Bool.false_eq_true, if_false]

/-- A completed step in single-step mode (60 R304). -/
theorem runLoop_single_steps (hs : s.runState = .running) (hstep : step s = .next t) (hfault : t.fault = none)
    (hsingle : s.singleStep = true) :
    runLoop (bound + 1) n commands s =
      if (pauseHandler commands { t with runState := .paused }).resumed then
        runLoop bound (n + 1) (pauseHandler commands { t with runState := .paused }).commands
          { (pauseHandler commands { t with runState := .paused }).state with runState := runStateResumed t.outcome }
      else
        .returned (n + 1) (pauseHandler commands { t with runState := .paused }).state
          (pauseHandler commands { t with runState := .paused }).commands := by
  obtain ⟨-, hsame⟩ := controller_of_step hstep
  simp only [runLoop, hs, hstep, hfault, countedSteps_eq_one, hsame, hsingle, if_true]

end Turn

theorem runStateResumed_of_ne_finished {out : StepOutcome} (h : out ≠ .finished) : runStateResumed out = .running := by
  cases out with
  | cont | pause => rfl
  | finished => exact absurd rfl h

end Sys2Proof.Machine

namespace Sys2Proof.ExceptionProofs

open Sys2Proof.Machine

/-- Settles O60: each clause is one equation of the loop, or one and then that of the run state it leaves. -/
theorem controllerTransitions : Obligations.ControllerTransitions := by
  unfold Obligations.ControllerTransitions
  intro bound n commands s
  refine ⟨runLoop_paused, ?running⟩
  intro u hs hstep hfault p
  refine ⟨fun hsingle hout => ?cont, fun hsingle hout => ?pause, fun hsingle hout => ?finished,
    fun hsingle hp => ?detached, fun hsingle hp hout => ?resumed, fun hsingle hp hout => ?resumedFinished⟩
  case cont =>
    have hnext : runStateAfter u.outcome u.runState = u.runState := by rw [hout]; rfl
    rw [runLoop_completes hs hstep hfault hsingle, hnext]
  case pause =>
    have hnext : runStateAfter u.outcome u.runState = .paused := by rw [hout]; rfl
    rw [runLoop_completes hs hstep hfault hsingle, hnext]
    exact runLoop_paused rfl
  case finished =>
    have hnext : runStateAfter u.outcome u.runState = .finished := by rw [hout]; rfl
    rw [runLoop_completes hs hstep hfault hsingle, hnext]
    exact runLoop_finished rfl
  case detached => rw [runLoop_single_steps hs hstep hfault hsingle, if_neg (Bool.not_eq_true _ ▸ hp)]
  case resumed =>
    rw [runLoop_single_steps hs hstep hfault hsingle, if_pos hp, runStateResumed_of_ne_finished hout]
  case resumedFinished =>
    have hnext : runStateResumed u.outcome = .finished := by rw [hout]; rfl
    rw [runLoop_single_steps hs hstep hfault hsingle, if_pos hp, hnext]
    exact runLoop_finished rfl

end Sys2Proof.ExceptionProofs
end

section
/-! PROOFS. What a controller run does, said once (60_exceptions.md R300 to R308): it takes turns, each a bare step or
none up to the controller state and the diagnostics, and it ends at the state of the last one or at the fault of the
step after it. -/

namespace Sys2Proof.Machine

/-- One turn of the loop, from a step count and a state to the next ones. -/
inductive Turn (n : Nat) (s : State) : Nat → State → Prop
  | pauses {t} (h : t.architectural = s.architectural) : Turn n s n t
  | steps {t u} (hstep : step s = .next u) (hfault : u.fault = none) (h : t.architectural = u.architectural) :
      Turn n s (n + 1) t

/-- How a run ends whose last turn left the step count `n` and the state `s`. -/
inductive RunEnds (n : Nat) (s : State) : RunResult → Prop
  | returned {commands} (h : s.runState = .finished ∨ s.runState = .paused ∧ commands = []) :
      RunEnds n s (.returned n s commands)
  | aborted {record t commands} (h : t = s ∨ step s = .next t) (hfault : t.fault = some record)
      (hrun : t.runState = .running) : RunEnds n s (.aborted record t commands)
  | unfinished {commands} : RunEnds n s (.unfinished n s commands)

/-- The loop answers `r` after one turn: it goes on with one bound less, or it ends. -/
def AfterTurn (bound n : Nat) (s : State) (r : RunResult) : Prop :=
  ∃ n' t, Turn n s n' t ∧ ((∃ commands, r = runLoop bound n' commands t) ∨ RunEnds n' t r)

/-- A call of the pause handler belongs to the turn before it (60 R301, R304). -/
theorem afterTurn_of_pause {bound n n' : Nat} {s u : State} (next : RunState) (commands : List String)
    (hturn : ∀ {t : State}, t.architectural = u.architectural → Turn n s n' t) (hu : u.runState = .paused) :
    AfterTurn bound n s
      (if (pauseHandler commands u).resumed then
        runLoop bound n' (pauseHandler commands u).commands { (pauseHandler commands u).state with runState := next }
      else .returned n' (pauseHandler commands u).state (pauseHandler commands u).commands) := by
  obtain ⟨harch, hrun, hdetached⟩ := (pauseHandler_ends commands u).frame
  split
  case isTrue hp =>
    refine ⟨n', _, ?_, .inl ⟨_, rfl⟩⟩
    exact hturn harch
  case isFalse hp =>
    exact ⟨n', _, hturn harch, .inr (.returned (.inr ⟨hrun.trans hu, hdetached (Bool.not_eq_true _ ▸ hp)⟩))⟩

theorem runLoop_afterTurn (bound n : Nat) (commands : List String) (s : State) :
    AfterTurn bound n s (runLoop (bound + 1) n commands s) := by
  cases hs : s.runState with
  | finished =>
    rw [runLoop_finished hs]
    exact ⟨n, s, .pauses rfl, .inr (.returned (.inl hs))⟩
  | paused =>
    rw [runLoop_paused hs]
    exact afterTurn_of_pause .running commands .pauses hs
  | running =>
    cases hfault : s.fault with
    | some record =>
      rw [runLoop_faulted hs hfault]
      exact ⟨n, s, .pauses rfl, .inr (.aborted (.inl rfl) hfault hs)⟩
    | none =>
      obtain ⟨u, hstep⟩ := step_answers_next hfault
      obtain ⟨hrun, -⟩ := controller_of_step hstep
      cases hfault' : u.fault with
      | some record =>
        rw [runLoop_faults hs hstep hfault']
        exact ⟨n, s, .pauses rfl, .inr (.aborted (.inr hstep) hfault' (hrun.trans hs))⟩
      | none =>
        cases hsingle : s.singleStep with
        | false =>
          rw [runLoop_completes hs hstep hfault' hsingle]
          refine ⟨n + 1, _, ?_, .inl ⟨commands, rfl⟩⟩
          exact .steps hstep hfault' rfl
        | true =>
          rw [runLoop_single_steps hs hstep hfault' hsingle]
          exact afterTurn_of_pause _ commands (fun h => .steps hstep hfault' h) rfl

/-- What every turn keeps holds where the run ends. -/
theorem runLoop_ends {P : Nat → State → Prop} (hP : ∀ {n s n' t}, P n s → Turn n s n' t → P n' t) (bound : Nat)
    {n : Nat} (commands : List String) {s : State} (h : P n s) :
    ∃ n' t, P n' t ∧ RunEnds n' t (runLoop bound n commands s) := by
  induction bound generalizing n commands s with
  | zero => exact ⟨n, s, h, .unfinished⟩
  | succ bound ih =>
    obtain ⟨n', t, hturn, ⟨commands', hloop⟩ | hend⟩ := runLoop_afterTurn bound n commands s
    · rw [hloop]
      exact ih commands' (hP h hturn)
    · exact ⟨n', t, hP h hturn, hend⟩

/-- The same of a whole run, whose step count starts at 0 (60 R306). -/
theorem runUntilFinish_ends {P : Nat → State → Prop} (hP : ∀ {n s n' t}, P n s → Turn n s n' t → P n' t) (bound : Nat)
    (commands : List String) {s : State} (h : P 0 s) :
    ∃ n t, P n t ∧ RunEnds n t (runUntilFinish bound commands s) :=
  runLoop_ends hP bound commands h

/-- Bare steps start with one. -/
theorem run_succ_iff {n : Nat} {s u : State} :
    core.run (n + 1) s = .next u ↔ ∃ t, step s = .next t ∧ core.run n t = .next u := by
  simp only [Host.Core.run, show core.step s = step s from rfl]
  cases step s <;> simp

/-- Bare steps end with one. -/
theorem run_succ_of_step {n : Nat} {s u v : State} (h : core.run n s = .next u) (hstep : step u = .next v) :
    core.run (n + 1) s = .next v := by
  induction n generalizing s with
  | zero =>
    obtain rfl : s = u := Host.Outcome.next.inj h
    exact run_succ_iff.mpr ⟨v, hstep, rfl⟩
  | succ n ih =>
    obtain ⟨t, hfirst, hrest⟩ := run_succ_iff.mp h
    exact run_succ_iff.mpr ⟨t, hfirst, ih hrest⟩

/-- `n` bare steps from `s₀` reach `s` up to the controller state and the diagnostics. -/
def Steps (s₀ : State) (n : Nat) (s : State) : Prop :=
  ∃ u, core.run n s₀ = .next u ∧ u.architectural = s.architectural

theorem steps_of_turn {s₀ s t : State} {n n' : Nat} (h : Steps s₀ n s) (hturn : Turn n s n' t) : Steps s₀ n' t := by
  obtain ⟨u, hrun, hu⟩ := h
  cases hturn with
  | pauses ht => exact ⟨u, hrun, hu.trans ht.symm⟩
  | steps hstep _ ht =>
    obtain ⟨v, hstep', hv⟩ := step_of_architectural_eq hu hstep
    exact ⟨v, run_succ_of_step hrun hstep', hv.trans ht.symm⟩

theorem inv_of_turn {s t : State} {n n' : Nat} (h : s.Inv) (hturn : Turn n s n' t) : t.Inv := by
  cases hturn with
  | pauses ht => exact inv_of_architectural_eq ht h
  | steps hstep _ ht => exact inv_of_architectural_eq ht (MemoryProofs.stepKeepsInvariant _ _ h hstep)

end Sys2Proof.Machine

namespace Sys2Proof.ExceptionProofs

open Sys2Proof.Machine

/-- Settles O14: every turn keeps the invariant, and so does the step that ends a run with its fault. -/
theorem controllerRunKeepsInvariant : Obligations.ControllerRunKeepsInvariant := by
  unfold Obligations.ControllerRunKeepsInvariant
  intro bound commands s t hinv hrun
  obtain ⟨_, last, hlast, hend⟩ := runUntilFinish_ends (P := fun _ s => s.Inv) inv_of_turn bound commands hinv
  rcases hrun with ⟨n, rest, hrun | hrun⟩ | ⟨record, rest, hrun⟩ <;> rw [hrun] at hend
  · cases hend
    exact hlast
  · cases hend
    exact hlast
  · obtain - | ⟨rfl | hstep, -, -⟩ := hend
    · exact hlast
    · exact MemoryProofs.stepKeepsInvariant _ _ hlast hstep

/-- Settles O54: the two states that the loop leaves at once, and the ends of a run. -/
theorem howARunEnds : Obligations.HowARunEnds := by
  unfold Obligations.HowARunEnds
  intro bound commands rest s t
  obtain ⟨_, last, -, hend⟩ :=
    runUntilFinish_ends (P := fun _ _ => True) (fun h _ => h) bound commands (s := s) trivial
  refine ⟨runLoop_finished, fun u record hs hstep hfault => runLoop_faults hs hstep hfault,
    fun record hs hfault => runLoop_faulted hs hfault, fun n hrun => ?returned, fun record hrun => ?aborted⟩
  case returned =>
    rw [hrun] at hend
    obtain ⟨h⟩ := hend
    exact h
  case aborted =>
    rw [hrun] at hend
    obtain - | ⟨-, hfault, hrunning⟩ := hend
    exact ⟨hfault, hrunning, step_of_faulted hfault, fun more cs => runLoop_faulted hrunning hfault⟩

/-- Settles O55: each turn is the bare step that its count says, or none. -/
theorem runStepsAreBareSteps : Obligations.RunStepsAreBareSteps := by
  unfold Obligations.RunStepsAreBareSteps
  intro bound n commands rest s t hrun
  have hstart : Steps s 0 s := ⟨s, rfl, rfl⟩
  obtain ⟨_, last, hlast, hend⟩ := runUntilFinish_ends steps_of_turn bound commands hstart
  rw [hrun] at hend
  cases hend
  exact hlast

end Sys2Proof.ExceptionProofs
end

section
/-! PROOFS. What the host operations leave in memory (70_reset_and_hazards.md R322, R324): the bytes of a program, the
overrides of a snapshot, and no byte past the address space. -/

namespace Sys2Proof.Machine

/-- Canonical memory lists no address past the space (20 R40). -/
theorem Memory.read_beyond {m : Memory} {lo a : Nat} (h : m.wfFrom lo = true) (ha : memoryBound ≤ a) :
    m.read a = memInit := by
  induction m generalizing lo with
  | nil => rfl
  | cons c rest ih =>
    obtain ⟨k, b⟩ := c
    simp only [Memory.wfFrom, Bool.and_eq_true, decide_eq_true_eq] at h
    obtain ⟨⟨⟨-, hk⟩, -⟩, hrest⟩ := h
    rw [Memory.read, if_neg (by omega), ih hrest]

/-- A byte string leaves the addresses before and after it alone. -/
theorem Memory.read_writeBytes_outside {bytes : List Byte} {m : Memory} {base a : Nat}
    (ha : a < base ∨ base + bytes.length ≤ a) : (m.writeBytes base bytes).read a = m.read a := by
  induction bytes generalizing m base with
  | nil => rfl
  | cons b rest ih =>
    rw [List.length_cons] at ha
    rw [Memory.writeBytes, ih (by omega), Memory.read_write_other m b (by omega)]

/-- Each byte of a byte string that ends inside the space is read at its place: no later byte falls on it. -/
theorem Memory.read_writeBytes_inside {bytes : List Byte} {m : Memory} {base k : Nat} {b : Byte} (h : m.wf = true)
    (hfits : base + bytes.length ≤ memoryBound) (hk : bytes[k]? = some b) :
    (m.writeBytes base bytes).read (base + k) = b := by
  induction bytes generalizing m base k with
  | nil => cases hk
  | cons c rest ih =>
    rw [List.length_cons] at hfits
    rw [Memory.writeBytes]
    cases k with
    | zero =>
      obtain rfl : c = b := Option.some.inj hk
      exact (Memory.read_writeBytes_outside (.inl (Nat.lt_add_one base))).trans (Memory.read_write_same h base c)
    | succ k =>
      have hwf : (m.write base c).wf = true := Memory.write_wf h (by omega)
      rw [← Nat.add_assoc, Nat.add_right_comm]
      exact ih hwf (by omega) hk

/-- An address without an override is left alone. -/
theorem Memory.read_override_of_not_mem {kvs : List (Nat × Nat)} {m : Memory} {a : Nat}
    (ha : a ∉ kvs.map Prod.fst) : (m.override kvs).read a = m.read a := by
  induction kvs generalizing m with
  | nil => rfl
  | cons kv rest ih =>
    obtain ⟨k, v⟩ := kv
    obtain ⟨hk, hrest⟩ := List.ne_and_not_mem_of_not_mem_cons ha
    rw [Memory.override, ih hrest, Memory.read_write_other m _ hk]

/-- An override is read back when its key is not repeated: no later one falls on it. -/
theorem Memory.read_override_of_mem {kvs : List (Nat × Nat)} {m : Memory} (h : m.wf = true)
    (hkeys : ∀ kv ∈ kvs, kv.1 < memoryBound) (hnodup : (kvs.map Prod.fst).Nodup) {k v : Nat} (hkv : (k, v) ∈ kvs) :
    (m.override kvs).read k = BitVec.ofNat 8 v := by
  induction kvs generalizing m with
  | nil => cases hkv
  | cons kv rest ih =>
    obtain ⟨hfirst, hrest⟩ := List.forall_mem_cons.mp hkeys
    obtain ⟨hnot, hnodup⟩ := List.nodup_cons.mp hnodup
    rw [Memory.override]
    rcases List.mem_cons.mp hkv with rfl | hkv
    · rw [Memory.read_override_of_not_mem hnot, Memory.read_write_same h]
    · exact ih (Memory.write_wf h hfirst) hrest hnodup hkv

end Sys2Proof.Machine
end

section
/-! PROOFS. What each host operation can answer, said once: Reset by its fields, program load and snapshot import by
their two cases, and the invariant of the new run they start (70_reset_and_hazards.md R320 to R324). -/

namespace Sys2Proof.Machine

/-! Reset. -/

@[simp] theorem resetAt_mem (start : Word) (s : State) : (resetAt start s).mem = s.mem := rfl

theorem freshInstance_mem (params : Params) (start : Word) : (freshInstance params start).mem = [] := rfl

/-- The model's reset state is a fresh CPU's at 0x0000 with the standard parameters (log 2, log 3). -/
theorem reset_eq_freshInstance : State.reset = freshInstance .standard 0x0000 := rfl

/-- The standard parameters assign no debug opcode. -/
theorem standard_params_wf : Params.standard.wf = true := rfl

/-- A state without a fault meets the invariant by its memory and its parameters. -/
theorem inv_of_no_fault {s : State} (hmem : s.mem.wf = true) (hparams : s.params.wf = true) (hfault : s.fault = none) :
    s.Inv := ⟨hmem, hparams, faultExplained_of_none hfault⟩

theorem inv_resetAt {s : State} (hmem : s.mem.wf = true) (hparams : s.params.wf = true) (start : Word) :
    (resetAt start s).Inv := inv_of_no_fault hmem hparams rfl

/-! Program load. -/

theorem loadProgram_tooLong {bytes : List Byte} {base : Word} {s : State}
    (h : memoryBound < base.toNat + bytes.length) : loadProgram bytes base s = .refuse .programTooLong s := if_pos h

theorem loadProgram_fits {bytes : List Byte} {base : Word} {s : State} (h : base.toNat + bytes.length ≤ memoryBound) :
    loadProgram bytes base s = .done (resetAt base { s with mem := s.mem.writeBytes base.toNat bytes }) :=
  if_neg (Nat.not_lt.mpr h)

/-! Snapshot import. -/

theorem SnapshotFields.inWidth_iff (f : SnapshotFields) :
    f.inWidth = true ↔ f.pc < 65536 ∧ f.a < 256 ∧ f.x < 256 ∧ f.y < 256 ∧ f.s < 256 ∧ f.p < 256 := by
  simp only [SnapshotFields.inWidth, Bool.and_eq_true, decide_eq_true_eq, and_assoc]

/-- The snapshot has the register fields `f`, and every value and memory key lies in its range (70 R324). -/
structure Snapshot.Accepted (snap : Snapshot) (f : SnapshotFields) : Prop where
  fields : snap.fields = some f
  inWidth : f.inWidth = true
  keys : ∀ kv ∈ snap.memory, kv.1 < memoryBound
  values : ∀ kv ∈ snap.memory, kv.2 < 256

/-- The state that importing an accepted snapshot leaves. -/
def imported (f : SnapshotFields) (memory : List (Nat × Nat)) (s : State) : State :=
  newRun
    { s with
      pc := BitVec.ofNat 16 f.pc, a := BitVec.ofNat 8 f.a, x := BitVec.ofNat 8 f.x, y := BitVec.ofNat 8 f.y,
      sp := BitVec.ofNat 8 f.s, flags := Flags.unpack (BitVec.ofNat 8 f.p), mem := Memory.override [] memory }

/-- An import sets the state of an accepted snapshot, or refuses one that is not accepted. -/
theorem fromState_cases (snap : Snapshot) (s : State) :
    (∃ f, snap.Accepted f ∧ fromState snap s = .done (imported f snap.memory s)) ∨
    (∀ f, ¬ snap.Accepted f) ∧ ∃ reason, fromState snap s = .refuse reason s := by
  unfold fromState
  split
  case h_1 hfields => exact .inr ⟨fun f hacc => (nomatch hfields.symm.trans hacc.fields), _, rfl⟩
  case h_2 f hfields =>
    have width_of_accepted {f'} (hacc : snap.Accepted f') : f.inWidth = true :=
      Option.some.inj (hacc.fields.symm.trans hfields) ▸ hacc.inWidth
    split_ifs with hwidth hkey hvalue
    · exact .inr ⟨fun f' hacc => (nomatch hwidth.symm.trans (width_of_accepted hacc)), _, rfl⟩
    · obtain ⟨kv, hkv, hge⟩ := List.any_eq_true.mp hkey
      exact .inr ⟨fun f' hacc => Nat.not_le.mpr (hacc.keys kv hkv) (of_decide_eq_true hge), _, rfl⟩
    · obtain ⟨kv, hkv, hge⟩ := List.any_eq_true.mp hvalue
      exact .inr ⟨fun f' hacc => Nat.not_le.mpr (hacc.values kv hkv) (of_decide_eq_true hge), _, rfl⟩
    · simp only [List.any_eq_true, decide_eq_true_eq, not_exists, not_and, Nat.not_le] at hkey hvalue
      exact .inl ⟨f, ⟨hfields, Bool.eq_true_of_not_eq_false hwidth, hkey, hvalue⟩, rfl⟩

theorem fromState_of_accepted {snap : Snapshot} {f : SnapshotFields} (h : snap.Accepted f) (s : State) :
    fromState snap s = .done (imported f snap.memory s) := by
  obtain ⟨f', hacc, heq⟩ | ⟨hno, -⟩ := fromState_cases snap s
  · obtain rfl : f' = f := Option.some.inj (hacc.fields.symm.trans h.fields)
    exact heq
  · exact absurd h (hno f)

/-- The memory of an imported snapshot is canonical. -/
theorem imported_mem_wf {snap : Snapshot} {f : SnapshotFields} (h : snap.Accepted f) (s : State) :
    (imported f snap.memory s).mem.wf = true := Memory.override_wf rfl h.keys

/-- The overrides of an accepted snapshot are read back as they were written. -/
theorem imported_read {snap : Snapshot} {f : SnapshotFields} (h : snap.Accepted f)
    (hnodup : (snap.memory.map Prod.fst).Nodup) {kv : Nat × Nat} (hkv : kv ∈ snap.memory) (s : State) :
    ((imported f snap.memory s).mem.read kv.1).toNat = kv.2 := by
  have hread : (imported f snap.memory s).mem.read kv.1 = BitVec.ofNat 8 kv.2 :=
    Memory.read_override_of_mem rfl h.keys hnodup hkv
  rw [hread, BitVec.toNat_ofNat, Nat.mod_eq_of_lt (h.values kv hkv)]

/-- The registers of an accepted snapshot are numbers inside their widths, so they are stored as they are. -/
theorem imported_registers {snap : Snapshot} {f : SnapshotFields} (h : snap.Accepted f) (memory : List (Nat × Nat))
    (s : State) :
    (imported f memory s).pc.toNat = f.pc ∧ (imported f memory s).a.toNat = f.a ∧
    (imported f memory s).x.toNat = f.x ∧ (imported f memory s).y.toNat = f.y ∧
    (imported f memory s).sp.toNat = f.s := by
  obtain ⟨hpc, ha, hx, hy, hs, -⟩ := f.inWidth_iff.mp h.inWidth
  exact ⟨Nat.mod_eq_of_lt hpc, Nat.mod_eq_of_lt ha, Nat.mod_eq_of_lt hx, Nat.mod_eq_of_lt hy, Nat.mod_eq_of_lt hs⟩

end Sys2Proof.Machine

namespace Sys2Proof.HostProofs

open Sys2Proof.Machine

/-- Settles O12: the reset state is a fresh CPU's, whose memory is empty. -/
theorem resetStateHasInvariant : Obligations.ResetStateHasInvariant := by
  unfold Obligations.ResetStateHasInvariant
  have fresh (params : Params) (start : Word) (hparams : params.wf = true) : (freshInstance params start).Inv :=
    inv_resetAt rfl hparams start
  exact ⟨reset_eq_freshInstance ▸ fresh .standard 0x0000 standard_params_wf, fresh⟩

/-- Settles O13: each operation refuses and changes nothing, or starts a run on canonical memory. -/
theorem hostOperationsKeepInvariant : Obligations.HostOperationsKeepInvariant := by
  unfold Obligations.HostOperationsKeepInvariant
  intro s hinv
  refine ⟨inv_resetAt hinv.mem hinv.params, fun bytes base => ?load, fun snap => ?snapshot⟩
  case load =>
    by_cases hfits : base.toNat + bytes.length ≤ memoryBound
    · rw [loadProgram_fits hfits]
      have hmem := Memory.writeBytes_wf hinv.mem hfits
      exact inv_resetAt (s := { s with mem := _ }) hmem hinv.params base
    · rw [loadProgram_tooLong (Nat.not_le.mp hfits)]
      exact hinv
  case snapshot =>
    obtain ⟨f, hacc, heq⟩ | ⟨-, reason, heq⟩ := fromState_cases snap s
    · rw [heq]
      exact inv_of_no_fault (imported_mem_wf hacc s) hinv.params rfl
    · rw [heq]
      exact hinv

/-- Settles O56: Reset sets its fields from constants alone, and a fresh memory lists no byte. -/
theorem resetClearsRegistersAndKeepsMemory : Obligations.ResetClearsRegistersAndKeepsMemory := by
  unfold Obligations.ResetClearsRegistersAndKeepsMemory
  intro start s zero
  have hfresh (params : Params) (p : Word) : memRead (freshInstance params start) p = 0x00 := by
    rw [memRead, freshInstance_mem]
    rfl
  exact ⟨rfl, fun p => congrArg (fun m : Memory => m.read p.toNat) (resetAt_mem start s), hfresh, fun _ => rfl⟩

/-- Settles O57: the program fits or not; when it does, each address lies in it or outside it. -/
theorem loadProgramPlacesBytesOrRefuses : Obligations.LoadProgramPlacesBytesOrRefuses := by
  unfold Obligations.LoadProgramPlacesBytesOrRefuses
  intro bytes base s hwf r
  refine ⟨fun hlong => ?refused, fun hfits => ?placed⟩
  case refused =>
    have hr : r = .refuse .programTooLong s := loadProgram_tooLong hlong
    rw [hr]
    exact ⟨rfl, rfl⟩
  case placed =>
    have hr : r = .done (resetAt base { s with mem := s.mem.writeBytes base.toNat bytes }) := loadProgram_fits hfits
    rw [hr]
    exact ⟨rfl, rfl, Memory.writeBytes_wf hwf hfits, fun _ _ => Memory.read_writeBytes_inside hwf hfits,
      fun _ => Memory.read_writeBytes_outside⟩

/-- Settles O58: an accepted snapshot is the good one of the statement. -/
theorem snapshotImportSetsStateOrRejects : Obligations.SnapshotImportSetsStateOrRejects := by
  unfold Obligations.SnapshotImportSetsStateOrRejects
  intro snap s r good
  have hgood : good ↔ ∃ f, snap.Accepted f := by
    constructor
    · rintro ⟨⟨f, hfields, hwidth⟩, hmemory⟩
      exact ⟨f, hfields, f.inWidth_iff.mpr hwidth, fun kv hkv => (hmemory kv hkv).1,
        fun kv hkv => (hmemory kv hkv).2⟩
    · rintro ⟨f, hacc⟩
      exact ⟨⟨f, hacc.fields, f.inWidth_iff.mp hacc.inWidth⟩, fun kv hkv => ⟨hacc.keys kv hkv, hacc.values kv hkv⟩⟩
  rw [hgood]
  obtain ⟨f, hacc, heq⟩ | ⟨hno, reason, heq⟩ := fromState_cases snap s
  · have hr : r = .done (imported f snap.memory s) := heq
    rw [hr]
    refine ⟨iff_of_true rfl ⟨f, hacc⟩, fun h => absurd rfl h, fun _ f' hf' => ?_⟩
    obtain rfl : f = f' := Option.some.inj (hacc.fields.symm.trans hf')
    obtain ⟨hpc, ha, hx, hy, hs⟩ := imported_registers hacc snap.memory s
    exact ⟨hpc, ha, hx, hy, hs, rfl, rfl, rfl, rfl, rfl, fun hnodup =>
      ⟨fun kv hkv => imported_read hacc hnodup hkv s, fun p => Memory.read_override_of_not_mem⟩⟩
  · have hr : r = .refuse reason s := heq
    have hnone : ¬ ∃ f, snap.Accepted f := fun ⟨f, hacc⟩ => hno f hacc
    rw [hr]
    exact ⟨iff_of_false nofun hnone, fun _ => rfl, fun h => absurd h hnone⟩

end Sys2Proof.HostProofs
end

section
/-! PROOFS. Export and import (70_reset_and_hazards.md R324 to R326): an exported state is an accepted snapshot, and the
memory image, one override per address, rebuilds canonical memory as equal data. -/

namespace Sys2Proof.Machine

/-- The register fields of an exported state. -/
def exportedFields (s : State) : SnapshotFields :=
  { pc := s.pc.toNat, a := s.a.toNat, x := s.x.toNat, y := s.y.toNat, s := s.sp.toNat, p := s.flags.pack.toNat }

theorem mem_getState_memory {s : State} {k v : Nat} :
    (k, v) ∈ (getState s).memory ↔ k < memoryBound ∧ v = (s.mem.read k).toNat := by
  simp only [getState, List.mem_map, List.mem_range, Prod.mk.injEq]
  constructor
  · rintro ⟨k', hk, rfl, rfl⟩
    exact ⟨hk, rfl⟩
  · rintro ⟨hk, rfl⟩
    exact ⟨k, hk, rfl, rfl⟩

/-- An exported memory image lists each address of the space once (70 R325). -/
theorem getState_memory_keys (s : State) : (getState s).memory.map Prod.fst = List.range memoryBound := by
  rw [getState, List.map_map]
  exact List.map_id _

/-- An exported state is accepted: its values come from words and bytes. -/
theorem getState_accepted (s : State) : (getState s).Accepted (exportedFields s) where
  fields := rfl
  inWidth := (exportedFields s).inWidth_iff.mpr
    ⟨s.pc.isLt, s.a.isLt, s.x.isLt, s.y.isLt, s.sp.isLt, s.flags.pack.isLt⟩
  keys _ hkv := (mem_getState_memory.mp hkv).1
  values _ hkv := (mem_getState_memory.mp hkv).2 ▸ BitVec.isLt _

/-- An exported memory image rebuilds canonical memory. -/
theorem override_getState_memory {s : State} (h : s.mem.wf = true) :
    Memory.override [] (getState s).memory = s.mem := by
  have hkeys := (getState_accepted s).keys
  have hwf : (Memory.override [] (getState s).memory).wf = true := Memory.override_wf rfl hkeys
  refine Memory.ext_of_wf hwf h fun k => ?_
  by_cases hk : k < memoryBound
  · have hnodup : ((getState s).memory.map Prod.fst).Nodup := getState_memory_keys s ▸ List.nodup_range
    rw [Memory.read_override_of_mem rfl hkeys hnodup (mem_getState_memory.mpr ⟨hk, rfl⟩), BitVec.ofNat_toNat,
      BitVec.setWidth_eq]
  · rw [Memory.read_beyond hwf (Nat.not_lt.mp hk), Memory.read_beyond h (Nat.not_lt.mp hk)]

/-- What is imported from an exported state has the registers, the flags and the memory of the exported state. -/
theorem imported_getState {s : State} (h : s.mem.wf = true) (s0 : State) :
    imported (exportedFields s) (getState s).memory s0 = newRun { s with log := s0.log, params := s0.params } := by
  simp only [imported, exportedFields, override_getState_memory h, BitVec.ofNat_toNat, BitVec.setWidth_eq,
    Flags.unpack_pack, newRun]

/-- A state matches what it exported (70 R326). -/
theorem matchesExpected_getState (s : State) : matchesExpected (getState s) s = true := by
  have hmemory : (getState s).memory.all (fun kv => decide ((s.mem.read kv.1).toNat = kv.2)) = true :=
    List.all_eq_true.mpr fun kv hkv => decide_eq_true (mem_getState_memory.mp hkv).2.symm
  rw [matchesExpected, hmemory]
  simp [getState]

/-- The comparison reads neither the controller, the fault and the cycle total nor the diagnostics and the parameters. -/
theorem matchesExpected_newRun (expected : Snapshot) (s : State) (log : List Diagnostic) (params : Params) :
    matchesExpected expected (newRun { s with log := log, params := params }) = matchesExpected expected s := rfl

end Sys2Proof.Machine

namespace Sys2Proof.HostProofs

open Sys2Proof.Machine

/-- Settles O59: the exported snapshot is accepted, and its import rebuilds the registers, the flags and memory. -/
theorem exportThenImportRestoresTheState : Obligations.ExportThenImportRestoresTheState := by
  unfold Obligations.ExportThenImportRestoresTheState
  intro s s0 hwf r
  have hr : r = .done (newRun { s with log := s0.log, params := s0.params }) := by
    rw [← imported_getState hwf s0]
    exact fromState_of_accepted (getState_accepted s) s0
  rw [hr]
  refine ⟨rfl, rfl, ?_⟩
  rw [HostResult.done, matchesExpected_newRun]
  exact matchesExpected_getState s

end Sys2Proof.HostProofs
end
